-- ==== Sys2Proof/Word.lean ====
section
/-! DEFINITION. The smallest data of the Varspen CS-820: bytes, station ids, bay numbers and a value per bay. -/

namespace Sys2Proof

/-- One byte of a cart bus frame, a dock line message, the configuration image or the package store (R186). -/
abbrev Byte := BitVec 8

/-- A station id of the cart bus, 0 to 15: 0 is the cart panel (Table 0-5). -/
abbrev StationId := BitVec 4

/-- The eight bays of the shelf, numbered 1 to 8 (Table 0-5). -/
inductive BayId where
  | b1 | b2 | b3 | b4 | b5 | b6 | b7 | b8
  deriving DecidableEq, Repr

/-- The bays in ascending order of their numbers. -/
def BayId.all : List BayId :=
  [.b1, .b2, .b3, .b4, .b5, .b6, .b7, .b8]

/-- The number of a bay, 1 to 8. -/
def BayId.num : BayId → Nat
  | .b1 => 1 | .b2 => 2 | .b3 => 3 | .b4 => 4 | .b5 => 5 | .b6 => 6 | .b7 => 7 | .b8 => 8

/-- The bay of a number; none for 0 and for a number above 8. -/
def BayId.ofNum? : Nat → Option BayId
  | 1 => some .b1 | 2 => some .b2 | 3 => some .b3 | 4 => some .b4
  | 5 => some .b5 | 6 => some .b6 | 7 => some .b7 | 8 => some .b8
  | _ => none

/-- The place of a bay in a list in ascending order of bay number. -/
def BayId.index (b : BayId) : Nat :=
  b.num - 1

/-- One value for each of the eight bays. -/
structure PerBay (α : Type) where
  /-- The value of bay 1. -/
  v1 : α
  /-- The value of bay 2. -/
  v2 : α
  /-- The value of bay 3. -/
  v3 : α
  /-- The value of bay 4. -/
  v4 : α
  /-- The value of bay 5. -/
  v5 : α
  /-- The value of bay 6. -/
  v6 : α
  /-- The value of bay 7. -/
  v7 : α
  /-- The value of bay 8. -/
  v8 : α
  deriving DecidableEq, Repr

/-- The value of one bay. -/
def PerBay.get {α : Type} (p : PerBay α) : BayId → α
  | .b1 => p.v1 | .b2 => p.v2 | .b3 => p.v3 | .b4 => p.v4
  | .b5 => p.v5 | .b6 => p.v6 | .b7 => p.v7 | .b8 => p.v8

/-- The values with that of one bay replaced. -/
def PerBay.set {α : Type} (p : PerBay α) (b : BayId) (x : α) : PerBay α :=
  match b with
  | .b1 => { p with v1 := x } | .b2 => { p with v2 := x } | .b3 => { p with v3 := x }
  | .b4 => { p with v4 := x } | .b5 => { p with v5 := x } | .b6 => { p with v6 := x }
  | .b7 => { p with v7 := x } | .b8 => { p with v8 := x }

/-- The values computed bay by bay. -/
def PerBay.ofFn {α : Type} (f : BayId → α) : PerBay α :=
  ⟨f .b1, f .b2, f .b3, f .b4, f .b5, f .b6, f .b7, f .b8⟩

/-- The same value for every bay. -/
def PerBay.const {α : Type} (x : α) : PerBay α :=
  ⟨x, x, x, x, x, x, x, x⟩

/-- The values in ascending order of bay number. -/
def PerBay.toList {α : Type} (p : PerBay α) : List α :=
  [p.v1, p.v2, p.v3, p.v4, p.v5, p.v6, p.v7, p.v8]

end Sys2Proof
end

