-- ==== Sys2Proof/Syntax.lean ====
section
/-! DEFINITION. The commands of the part: one constructor for each row of spec/opcode_table.json, with what the
event carries. A frame is given by its sender and its payload bytes (Table 11-2), a dock line reply by its payload
bytes (Table 11-7), an event at a bay by the bay. -/

namespace Sys2Proof

/-- The faults for which a received frame is discarded and counted (R7). -/
inductive RxFault where
  /-- A route of 01 or 10. -/
  | badRoute
  /-- A kind whose priority or route differs from the head (R4). -/
  | mismatched
  /-- A payload length above 40. -/
  | badLength
  /-- The frame ended before its second CRC character (R5). -/
  | truncated
  /-- The CRC differs from the one computed over the frame. -/
  | badCrc
  deriving DecidableEq, Repr

/-- The conditions that put a bay's supply in FAULT, with the detail values 1 to 3 (R67). -/
inductive SupplyCondition where
  /-- Detail 1: current above the applied setpoint plus 300 mA for 200 ms. -/
  | overSetpoint
  /-- Detail 2: current above 3000 mA at any instant. -/
  | overCurrent
  /-- Detail 3: voltage below 80 % of the applied setpoint voltage for 200 ms. -/
  | underVoltage
  deriving DecidableEq, Repr

/-- The commands: one constructor per row of the table of operations and events. -/
inductive Instr where
  /-- POWER_ON (R180). -/
  | powerOn
  /-- RESET_INPUT (R180). -/
  | resetInput
  /-- RESET_RELEASE (R180): the strap levels SID, CSEL and ROMEN at the release of reset. -/
  | resetRelease (sid : StationId) (csel : BitVec 3) (romen : Bool)
  /-- EEPROM_ADDRESS_ATTEMPT (R181): none when the EEPROM does not answer; else the bytes it gives from address 0
  up to the point at which it stops answering. -/
  | eepromAddressAttempt (answer : Option (List Byte))
  /-- SUL_FINISHED (R185): the door and bolt switch levels that the Lock Controller takes at that moment, as sets of
  bays (R186): doors that read open, bolts that read retracted. -/
  | sulFinished (doorsOpen boltsRetracted : Byte)
  /-- LINE_IDLE (R1, R11). -/
  | lineIdle
  /-- HEAD_WON (R11). -/
  | headWon
  /-- HEAD_LOST (R11). -/
  | headLost
  /-- FRAME_TX_COMPLETE (R12). -/
  | frameTxComplete
  /-- POST_HEAD_MISMATCH (R12). -/
  | postHeadMismatch
  /-- MISMATCH_CLASH_CONFIRMED (R12). -/
  | mismatchClashConfirmed
  /-- STUCK_LINE_START (R1, R14). -/
  | stuckLineStart
  /-- STUCK_LINE_END (R1). -/
  | stuckLineEnd
  /-- RX_FRAME_DISCARDED (R7): the first fault found. -/
  | rxFrameDiscarded (fault : RxFault)
  /-- FRAME_SKIPPED (R6): the destination id character of the skipped frame. -/
  | frameSkipped (dest : Byte)
  /-- OWN_ID_FRAME (R8, R15). -/
  | ownIdFrame
  /-- IGNORED_FRAME (R8): the sender of the valid frame. -/
  | ignoredFrame (sender : StationId)
  /-- CLAIM_ARRIVAL (R20): the sender and the payload of a valid CLAIM frame. -/
  | claimArrival (sender : StationId) (payload : List Byte)
  /-- LIMIT_ARRIVAL (R24): the payload of a valid LIMIT frame from the cart panel. -/
  | limitArrival (payload : List Byte)
  /-- RELEASE_CHECKOUT (R154, R156): the bay and hold window bytes of a RELEASE of kind 1. -/
  | releaseCheckout (bay hold : Byte)
  /-- RELEASE_RETURN (R154, R156): the bay and hold window bytes of a RELEASE of kind 2. -/
  | releaseReturn (bay hold : Byte)
  /-- RELEASE_SERVICE (R154, R161): the bay and hold window bytes of a RELEASE of kind 3. -/
  | releaseService (bay hold : Byte)
  /-- QUARANTINE (R162): the payload. -/
  | quarantine (payload : List Byte)
  /-- ASSIGN (R163): the payload. -/
  | assign (payload : List Byte)
  /-- ASSIGN_CLEAR (R163, R186): the bay of an ASSIGN whose tag is 12 bytes of 0x00. -/
  | assignClear (bay : Byte)
  /-- NEED (R59): the payload. -/
  | need (payload : List Byte)
  /-- FIXED (R47): the payload. -/
  | fixed (payload : List Byte)
  /-- FIXED_TABLE (R48, R186): the bay of a FIXED whose current is 0xFFFF. -/
  | fixedTable (bay : Byte)
  /-- NOTICE_MASK (R177): the payload. -/
  | noticeMask (payload : List Byte)
  /-- QUERY_STATION (R172): the second payload byte. -/
  | queryStation (id : Byte)
  /-- QUERY_BAY (R172): the bay byte. -/
  | queryBay (bay : Byte)
  /-- QUERY_PACKAGE (R172): the package id byte. -/
  | queryPackage (id : Byte)
  /-- QUERY_PEERS (R172): the second payload byte. -/
  | queryPeers (id : Byte)
  /-- QUERY_BAD_SUBJECT (R172): the payload, of another subject code or of the wrong length. -/
  | queryBadSubject (payload : List Byte)
  /-- RESTART (R173): the payload. -/
  | restart (payload : List Byte)
  /-- PACKAGE_OPEN (R94): the payload. -/
  | packageOpen (payload : List Byte)
  /-- PACKAGE_WITHDRAW (R103): the payload. -/
  | packageWithdraw (payload : List Byte)
  /-- PACKAGE_DATA (R97, R98): the payload of a PACKAGE_DATA frame from the cart panel. -/
  | packageData (payload : List Byte)
  /-- UNKNOWN_COMMAND (R4, R170): the kind code as received, and the payload. -/
  | unknownCommand (kind : Byte) (payload : List Byte)
  /-- LISTEN_PERIOD_EXPIRY (R14). -/
  | listenPeriodExpiry
  /-- ISOLATION_TIMER_EXPIRY (R14). -/
  | isolationTimerExpiry
  /-- REFRESH_TIMER_EXPIRY (R19). -/
  | refreshTimerExpiry
  /-- PEER_ENTRY_STALE (R21): the id of the entry whose age reaches 3 refresh intervals. -/
  | peerEntryStale (id : StationId)
  /-- RAISE_HOLD_EXPIRY (R36). -/
  | raiseHoldExpiry
  /-- SHED_WAIT_END (R64). -/
  | shedWaitEnd (bay : BayId)
  /-- SENSOR_SAMPLE (R49, R50): the readings of sensors 1 and 2 in whole degrees Celsius. -/
  | sensorSample (reading1 reading2 : Int)
  /-- SUPPLY_FAULT (R67): the condition found first. -/
  | supplyFault (bay : BayId) (condition : SupplyCondition)
  /-- PRESENCE_GAINED (R75). -/
  | presenceGained (bay : BayId)
  /-- PRESENCE_LOST (R76). -/
  | presenceLost (bay : BayId)
  /-- POLL_TIMER_EXPIRY (R88). -/
  | pollTimerExpiry (bay : BayId)
  /-- IDENT_RETRY_EXPIRY (R85, R88). -/
  | identRetryExpiry (bay : BayId)
  /-- REPLY_WINDOW_TIMEOUT (R73): on the dock line of the bay. -/
  | replyWindowTimeout (bay : BayId)
  /-- BAD_REPLY (R72): on the dock line of the bay. -/
  | badReply (bay : BayId)
  /-- QUIET_WAIT_END (R73): on the dock line of the bay. -/
  | quietWaitEnd (bay : BayId)
  /-- QUIET_WAIT_FAIL (R73): on the dock line of the bay. -/
  | quietWaitFail (bay : BayId)
  /-- IDENT_REPLY (R85): the payload of a reply of the IDENT reply kind. -/
  | identReply (bay : BayId) (payload : List Byte)
  /-- STATUS_REPLY (R86): the payload of a reply of the STATUS reply kind. -/
  | statusReply (bay : BayId) (payload : List Byte)
  /-- MODE_REPLY (R87): the payload of a reply of the MODE reply kind. -/
  | modeReply (bay : BayId) (payload : List Byte)
  /-- PKG_BEGIN_REPLY (R112): the payload of a reply of the PKG_BEGIN reply kind. -/
  | pkgBeginReply (bay : BayId) (payload : List Byte)
  /-- PKG_BLOCK_REPLY (R113): the payload of a reply of the PKG_BLOCK reply kind. -/
  | pkgBlockReply (bay : BayId) (payload : List Byte)
  /-- PKG_END_REPLY (R114): the payload of a reply of the PKG_END reply kind. -/
  | pkgEndReply (bay : BayId) (payload : List Byte)
  /-- RETRY_DELAY_EXPIRY (R117). -/
  | retryDelayExpiry (bay : BayId)
  /-- DOOR_OPENED (R130, R147): the debounced door switch opens. -/
  | doorOpened (bay : BayId)
  /-- DOOR_CLOSED (R130, R146): the debounced door switch closes. -/
  | doorClosed (bay : BayId)
  /-- BOLT_RETRACTED (R130, R148): the debounced bolt switch reads retracted. -/
  | boltRetracted (bay : BayId)
  /-- BOLT_EXTENDED (R130): the debounced bolt switch reads extended. -/
  | boltExtended (bay : BayId)
  /-- EXTEND_WAIT_EXPIRY (R131). -/
  | extendWaitExpiry (bay : BayId)
  /-- PREPARE_END (R139). -/
  | prepareEnd (bay : BayId)
  /-- PULSE_END (R141). -/
  | pulseEnd (bay : BayId)
  /-- HOLD_WINDOW_EXPIRY (R145). -/
  | holdWindowExpiry (bay : BayId)
  /-- COOLDOWN_END (R143). -/
  | cooldownEnd (bay : BayId)
  /-- WAIT_LIMIT (R137): the limit of the release entry of the bay falls. -/
  | waitLimit (bay : BayId)
  /-- RELEASE_BAD_KIND (R154, R170): the payload of a RELEASE with another kind code or of the wrong length. -/
  | releaseBadKind (payload : List Byte)
  deriving DecidableEq, Repr

end Sys2Proof
end

