-- ==== Sys2Proof/Decode.lean ====
section
/-! DEFINITION. The command that a word spells by the bits of the table. -/

namespace Sys2Proof

/-- The command of a word of the table of operations and events. No row of the table gives bits: its rows are events,
not encoded instructions, so that no word spells a command. The frames and messages that do have an encoding are read
in Machine/Front.lean. -/
def decodeTableWord (_nbits _w : Nat) : Option Instr :=
  none

end Sys2Proof
end

