-- ==== Sys2Proof/Config.lean ====
section
/-! DEFINITION. The free values of the model: constants with no body, so that no proof can see what they are.
Each stands for a value that the manual does not state; the assumption log names every one. -/

namespace Sys2Proof

/-- R66, R67. The output current of a bay in mA, as its supply stage measures it in a millisecond: an analog quantity
that no rule computes. The arguments are the bay and the clock reading at the end of the millisecond (DESIGN CHOICE,
log entry 7). -/
opaque Config.outputCurrent : BayId → Nat → Nat

/-- R66, R67. The output voltage of a bay in mV, as its supply stage measures it in a millisecond (DESIGN CHOICE, log
entry 7). -/
opaque Config.outputVoltage : BayId → Nat → Nat

/-- R74. Whether the presence switch of a bay reads closed in a millisecond: its contact is outside the part (DESIGN
CHOICE, log entry 33). -/
opaque Config.presenceSwitch : BayId → Nat → Bool

/-- R130. Whether the door switch of a bay reads open in a millisecond (DESIGN CHOICE, log entry 33). -/
opaque Config.doorSwitch : BayId → Nat → Bool

/-- R130. Whether the bolt switch of a bay reads retracted in a millisecond (DESIGN CHOICE, log entry 33). -/
opaque Config.boltSwitch : BayId → Nat → Bool

/-- R171. The bay or package id of a REPLY to a command whose payload is too short to carry that field. The argument
is the running number of the reading (DESIGN CHOICE, log entry 8). -/
opaque Config.absentId : Nat → Byte

/-- R152. The time left of a pulse, in ms, that the BAY report shows for a driver still in PREPARE: the manual gives
the report no value before the pulse begins. The argument is the running number of the reading (DESIGN CHOICE, log
entry 9). -/
opaque Config.prepareTimeLeft : Nat → Nat

/-- Table 11-2. The trimmed flag that a CLAIM carries when its trimmed byte is neither 0 nor 1: the manual gives those
two codes alone, and settles the other fields but not this one (R20, DESIGN CHOICE, log entry 10). -/
opaque Config.trimmedCode : Byte → Bool

/-- Section 0.5.5. Which of several timers that are due at one moment is taken first, the clock reading given: the
manual gives the outcome of each order and chooses none (DESIGN CHOICE, log entry 3). -/
opaque Config.firstDue : Nat → Nat

end Sys2Proof
end

