-- ==== Sys2Proof/Machine/Types.lean ====
section
/-! DEFINITION. The data the eight blocks of the part hold (Table 0-1), block by block. Powers are whole watts,
currents milliamperes, temperatures whole degrees Celsius; a time is a reading of the model's millisecond clock. -/

namespace Sys2Proof.Machine

/-! ### Cart Bus Interface -/

/-- The station bus states (Table 1-3). -/
inductive StationState where
  | starting | listen | active | isolated | clashed | halted
  deriving DecidableEq, Repr

/-- The kinds of frame a shelf sends (Table 1-2). -/
inductive TxKind where
  | claim | reply | report | notice
  deriving DecidableEq, Repr

/-- A frame in the transmit queue or on the line (R9). -/
structure TxFrame where
  /-- The kind, which fixes the priority and the route (R4). -/
  kind : TxKind
  /-- The payload bytes (Table 11-2). -/
  payload : List Byte
  /-- The restart mark held with the REPLY to a RESTART (R173). -/
  marked : Bool
  /-- The frame's age: its running number among the frames placed (R9). -/
  age : Nat
  deriving DecidableEq, Repr

/-- The state of the Cart Bus Interface (chapter 1). -/
structure Cbi where
  /-- The station bus state (R13). -/
  station : StationState
  /-- The station's own id, from the SID strap (R184). -/
  ownId : StationId
  /-- The transmit queue, at most 8 frames, first to be sent first (R9). -/
  queue : List TxFrame
  /-- The running number the next frame placed gets as its age (R9). -/
  nextAge : Nat
  /-- The age of the frame whose head is being sent, if any (R11). -/
  contending : Option Nat
  /-- The frame on the line: its head is won, it has neither completed nor been dropped (R9). -/
  onLine : Option TxFrame
  /-- A post-head mismatch whose cause the line has not yet shown (R12). -/
  mismatch : Bool
  /-- The stuck condition (R1). -/
  stuck : Bool
  /-- The receive error count, 0 to 255 (R7). -/
  rxErrors : Nat
  /-- The end of the LISTEN period, while it runs (R14). -/
  listenUntil : Option Nat
  /-- The moment the isolation timer expires, while it runs (R14). -/
  isolationUntil : Option Nat
  deriving DecidableEq, Repr

/-! ### Share Unit -/

/-- Whether the claims of a peer are current (Table 2-2). -/
inductive EntryState where
  | live | stale
  deriving DecidableEq, Repr

/-- A peer entry (Table 2-2). -/
structure Peer where
  /-- The sender of the claims, 1 to 15. -/
  id : StationId
  /-- LIVE or STALE. -/
  state : EntryState
  /-- The station state as last claimed: true for ISOLATED, false for ACTIVE. -/
  isolated : Bool
  /-- Demand, as stored (R20). -/
  d : Nat
  /-- Floor, as stored (R20). -/
  f : Nat
  /-- Weight, as stored (R20). -/
  w : Nat
  /-- Applied limit, as stored (R20). -/
  a : Nat
  /-- Selected ceiling, as stored (R20). -/
  cSel : Nat
  /-- Configured station count, as stored (R20). -/
  nCfg : Nat
  /-- The trimmed flag as last claimed. -/
  trimmed : Bool
  /-- When the last claim arrived; the age is the time since (R21). -/
  heardAt : Nat
  /-- COUNT_MISMATCH has been raised for this id (R22). -/
  countNoted : Bool
  /-- CEILING_MISMATCH has been raised for this id (R23). -/
  ceilingNoted : Bool
  /-- The share the most recent computation gives this peer (R31). -/
  g : Nat
  deriving DecidableEq, Repr

/-- The figures of a claim (Table 2-1). -/
structure ClaimFigures where
  /-- The station state: true for ISOLATED, false for ACTIVE. -/
  isolated : Bool
  /-- Demand. -/
  d : Nat
  /-- Floor. -/
  f : Nat
  /-- Weight. -/
  w : Nat
  /-- Applied limit A. -/
  a : Nat
  /-- Selected ceiling. -/
  cSel : Nat
  /-- Configured station count. -/
  nCfg : Nat
  /-- Trimmed flag. -/
  trimmed : Bool
  deriving DecidableEq, Repr

/-- The hold origin of a pending raise (R35). -/
inductive RaiseOrigin where
  /-- The completion of the own CLAIM that waits in the transmit queue. -/
  | queuedClaim
  /-- The completion of the own CLAIM on the line. -/
  | claimOnLine
  /-- The origin has passed and the hold runs until the time given. -/
  | holdUntil (time : Nat)
  deriving DecidableEq, Repr

/-- A pending raise (R35). -/
structure Raise where
  /-- The share of the latest computation. -/
  target : Nat
  /-- The hold origin. -/
  origin : RaiseOrigin
  deriving DecidableEq, Repr

/-- The refresh timer (R19). -/
inductive RefreshTimer where
  | stopped
  | running (untilTime : Nat)
  | expired
  deriving DecidableEq, Repr

/-- The state of the Share Unit (chapter 2). -/
structure Shu where
  /-- The peer table, in ascending order of id (R20, R43). -/
  peers : List Peer
  /-- The panel limit, if one is set (R24). -/
  panelLimit : Option Nat
  /-- The effective ceiling of the most recent computation (R25). -/
  cEff : Nat
  /-- The reservation of the most recent computation (R26, R32, R33). -/
  rsv : Nat
  /-- The share S of the most recent computation (R31). -/
  share : Nat
  /-- The own stage-1 floor grant of the most recent computation (R29). -/
  floorGrant : Nat
  /-- The applied limit (section 2.5). -/
  lapp : Nat
  /-- The pending raise, if any (R35). -/
  raise : Option Raise
  /-- The trimmed flag (R42). -/
  trimmed : Bool
  /-- The refresh timer (R19). -/
  refresh : RefreshTimer
  /-- The last placed figures, if any (R17). -/
  lastPlaced : Option ClaimFigures
  /-- The own demand D (R16). -/
  d : Nat
  /-- The own floor F (R16). -/
  f : Nat
  /-- The own weight W (R16). -/
  w : Nat
  deriving DecidableEq, Repr

/-! ### Bay Supply Controller -/

/-- The phase tags of the profile table (R45). -/
inductive Phase where
  | wake | bulk | taper | hold
  deriving DecidableEq, Repr

/-- A profile table entry (R45). -/
structure ProfileEntry where
  /-- The current in mA. -/
  current : Nat
  /-- 9 V rather than 5 V. -/
  nineVolt : Bool
  /-- The phase tag. -/
  phase : Phase
  deriving DecidableEq, Repr

/-- The supply states (R65). -/
inductive SupplyState where
  | idle | run | fault
  deriving DecidableEq, Repr

/-- The derate levels (R51). -/
inductive DerateLevel where
  | l0 | l1 | l2 | l3 | cut
  deriving DecidableEq, Repr

/-- A temperature sensor (R49). -/
structure Sensor where
  /-- The last good reading since reset, if any. -/
  last : Option Int
  /-- Marked faulty until reset. -/
  faulty : Bool
  deriving DecidableEq, Repr

/-- A setpoint: a current in mA at 5 V or 9 V (R63). -/
structure Setpoint where
  /-- The current in mA; 0 turns the output off. -/
  current : Nat
  /-- 9 V rather than 5 V. -/
  nineVolt : Bool
  deriving DecidableEq, Repr

/-- A pending rise of an applied setpoint (R64). -/
structure Rise where
  /-- The computed setpoint to be applied. -/
  target : Setpoint
  /-- The end of the shed wait. -/
  shedUntil : Nat
  deriving DecidableEq, Repr

/-- The measurements of a bay's output (R66) and how long the conditions of R67 have been found. -/
structure Meter where
  /-- The measured output current in mA, as last read. -/
  current : Nat
  /-- The measured output voltage in mV, as last read. -/
  voltage : Nat
  /-- The output power in uW of each of the last 1000 ms read, the latest first. -/
  powers : List Nat
  /-- For how many ms without a break the current has been above the applied setpoint current plus 300 mA. -/
  overFor : Nat
  /-- The current has been above 3000 mA. -/
  surge : Bool
  /-- For how many ms without a break the voltage has been below 80 % of the applied setpoint voltage. -/
  underFor : Nat
  deriving DecidableEq, Repr

/-- What the Bay Supply Controller holds for one bay (Table 3-7). -/
structure BscBay where
  /-- The supply state (R65). -/
  supply : SupplyState
  /-- The fixed current in mA while the bay is in fixed mode (R47). -/
  fixed : Option Nat
  /-- The urgency weight (R59). -/
  weight : Nat
  /-- The phase as the figures were last computed; none in supply state IDLE (R70). -/
  phase : Option Phase
  /-- The charge current I_c in mA as last computed (R54). -/
  chargeCurrent : Nat
  /-- The charge voltage as last computed: 9 V rather than 5 V (R54). -/
  chargeNine : Bool
  /-- The request (R55). -/
  request : Nat
  /-- The bay floor (R56). -/
  floor : Nat
  /-- The bay demand (R57). -/
  demand : Nat
  /-- The grant of the most recent split (R61). -/
  grant : Nat
  /-- The setpoint last computed (R63). -/
  computed : Setpoint
  /-- The applied setpoint (R64). -/
  applied : Setpoint
  /-- The pending rise, if any (R64). -/
  rise : Option Rise
  /-- When the output last went off, if it has been on since reset (R66). -/
  offSince : Option Nat
  /-- The measurements (R66, R67). -/
  meter : Meter
  deriving DecidableEq, Repr

/-- The state of the Bay Supply Controller but for the profile table, which stands among the settings (chapter 3). -/
structure Bsc where
  /-- The derate level (R51). -/
  derate : DerateLevel
  /-- The hot count, 0 to 8 (R50). -/
  hot : Nat
  /-- The cool count, 0 to 40 (R50). -/
  cool : Nat
  /-- Sensor 1 (R49). -/
  sensor1 : Sensor
  /-- Sensor 2 (R49). -/
  sensor2 : Sensor
  /-- The bays. -/
  bays : PerBay BscBay
  deriving DecidableEq, Repr

/-! ### Dock Line Controller -/

/-- The dock states (Table 4-1). -/
inductive DockState where
  | empty | seated | active | asleep
  deriving DecidableEq, Repr

/-- An asset tag: 12 character codes (R186). -/
abbrev Tag := List Byte

/-- A tablet record (Table 4-3). -/
structure TabletRecord where
  /-- The asset tag. -/
  tag : Tag
  /-- The class, 0 to 7. -/
  cls : Nat
  /-- The battery percent, 0 to 100; none for unknown. -/
  percent : Option Nat
  /-- The tablet refuses charge. -/
  inhibit : Bool
  /-- The mode flag: true for FREE, false for CART. -/
  free : Bool
  /-- When the last valid reply came; the last-answer age is the time since (R78). -/
  answeredAt : Nat
  deriving DecidableEq, Repr

/-- The kinds of work queue item (Table 4-4). -/
inductive ItemKind where
  | ident | modeCart | modeFree | status | package
  deriving DecidableEq, Repr

/-- A work queue item (R80); its class follows from its kind. -/
structure WorkItem where
  /-- The bay. -/
  bay : BayId
  /-- The kind. -/
  kind : ItemKind
  /-- The age: the time it was placed. -/
  placedAt : Nat
  deriving DecidableEq, Repr

/-- A deferred class 0 request (R81). -/
structure Deferred where
  /-- The bay. -/
  bay : BayId
  /-- The kind. -/
  kind : ItemKind
  deriving DecidableEq, Repr

/-- A dock line request (Tables 6-1 and 11-7). -/
inductive Request where
  | ident
  | status
  /-- MODE, asking for FREE or for CART. -/
  | mode (free : Bool)
  | pkgBegin (id length check : Nat)
  | pkgBlock (index : Nat) (data : List Byte)
  | pkgEnd (id : Nat)
  deriving DecidableEq, Repr

/-- What an engine does in an exchange (R73). -/
inductive ExchangePhase where
  /-- The request is sent and a reply awaited. -/
  | awaitingReply
  /-- The first try failed and the line must be quiet for 1 ms. -/
  | quietWait
  deriving DecidableEq, Repr

/-- An exchange in progress (R73). -/
structure Exchange where
  /-- The request sent, and sent again on a repeat. -/
  request : Request
  /-- The second try has been sent. -/
  secondTry : Bool
  /-- The phase. -/
  phase : ExchangePhase
  deriving DecidableEq, Repr

/-- The two dock engines (section 4.5). -/
inductive EngineId where
  | e1 | e2
  deriving DecidableEq, Repr

/-- A dock engine: IDLE, or BUSY with an item, whose bay it holds (R83). -/
inductive Engine where
  | idle
  | busy (item : WorkItem) (exchange : Exchange)
  deriving DecidableEq, Repr

/-- A transfer record (R108). -/
structure Transfer where
  /-- The package id. -/
  id : Nat
  /-- The length in blocks. -/
  length : Nat
  /-- The next block index, 0 to the length. -/
  next : Nat
  /-- The resend mark. -/
  resend : Bool
  /-- The suspended mark. -/
  suspended : Bool
  /-- The takeover mark. -/
  takeover : Bool
  deriving DecidableEq, Repr

/-- The causes of an ABORTED end (R116). -/
inductive AbortCause where
  | withdrawn | lockState | takeover | removed
  deriving DecidableEq, Repr

/-- The results of a transfer (Table 6-2). -/
inductive TransferResult where
  | delivered | hadIt | refused
  | endedByTablet (residual : Nat)
  | failedAttempt
  | aborted (cause : AbortCause)
  deriving DecidableEq, Repr

/-- The last transfer end on a bay (R128). -/
structure TransferEnd where
  /-- The package id. -/
  id : Nat
  /-- The result, with its residual or cause. -/
  result : TransferResult
  deriving DecidableEq, Repr

/-- What the Dock Line Controller holds for one bay (Tables 4-5 and 6-3). -/
structure DlcBay where
  /-- The dock state (Table 4-1). -/
  dock : DockState
  /-- The presence debounce: stopped, or for how many ms without a break the presence switch has read the level other
  than the one it counts as, closed in every dock state but EMPTY (R74). -/
  presenceRun : Option Nat
  /-- The tablet record, if present (R78). -/
  record : Option TabletRecord
  /-- The last tablet's asset tag, if any (R79). -/
  lastTablet : Option Tag
  /-- The STATUS miss count, 0 to 3 (R77). -/
  misses : Nat
  /-- The poll timer's expiry, while it runs (R88). -/
  pollUntil : Option Nat
  /-- The IDENT retry timer's expiry, while it runs (R88). -/
  identUntil : Option Nat
  /-- The transfer in flight, if any (R108). -/
  transfer : Option Transfer
  /-- The last transfer end, if any (R128). -/
  lastEnd : Option TransferEnd
  deriving DecidableEq, Repr

/-- The state of the Dock Line Controller (chapters 4 and 6). -/
structure Dlc where
  /-- The work queue, at most 16 items, first to be served first (R80). -/
  queue : List WorkItem
  /-- The deferred class 0 requests, oldest first (R81). -/
  deferred : List Deferred
  /-- Dock engine 1. -/
  engine1 : Engine
  /-- Dock engine 2. -/
  engine2 : Engine
  /-- The bays. -/
  bays : PerBay DlcBay
  deriving DecidableEq, Repr

/-! ### Package Store -/

/-- The package states (Table 5-2). -/
inductive PackageState where
  | loading | ready | withdrawing | complete | loadFault | checkFault
  deriving DecidableEq, Repr

/-- The outcomes of a package on a bay (Table 5-3). -/
inductive PkgOutcome where
  | pending | delivered
  | endedByTablet (residual : Nat)
  | hadIt | failed | refused | full
  deriving DecidableEq, Repr

/-- What a package entry holds for one target bay (Table 5-1). -/
structure Target where
  /-- The outcome, with its residual. -/
  outcome : PkgOutcome
  /-- The attempt count, 0 to 2. -/
  attempts : Nat
  deriving DecidableEq, Repr

/-- A package table entry in use (Table 5-1). -/
structure Package where
  /-- The id, 1 to 255. -/
  id : Nat
  /-- The state. -/
  state : PackageState
  /-- The length in blocks, 1 to 32. -/
  length : Nat
  /-- The base block of its run, meaningful while blocks are held. -/
  base : Nat
  /-- The check value. -/
  check : Nat
  /-- The target bays with their outcomes and attempt counts; none for a bay outside the target set. -/
  targets : PerBay (Option Target)
  /-- The next load offset, 0 to the length. -/
  nextOffset : Nat
  /-- The settle order number, once settled (R93). -/
  settle : Nat
  deriving DecidableEq, Repr

/-- What the Package Store holds for one bay (R101, R117). -/
structure PksBay where
  /-- The package list, oldest READY first, at most 4 ids. -/
  list : List Nat
  /-- The end of the retry delay, while it runs. -/
  retryUntil : Option Nat
  deriving DecidableEq, Repr

/-- The state of the Package Store (chapters 5 and 6). -/
structure Pks where
  /-- The bytes of the store that differ from what an unwritten byte reads as, in rising order of address (R92). -/
  store : List Host.Cell
  /-- The entries of the package table in use, at most 8. -/
  table : List Package
  /-- The settle order number the next settled entry gets (R93). -/
  nextSettle : Nat
  /-- The bays. -/
  bays : PerBay PksBay
  deriving DecidableEq, Repr

/-! ### Lock Controller -/

/-- The lock states (Table 7-1). -/
inductive LockState where
  | locked | queued | prepare | pulse | hold | opened | cooldown | lockFault | unsecured
  deriving DecidableEq, Repr

/-- The release kinds (Table 8-1). -/
inductive ReleaseKind where
  | checkout | returning | service
  deriving DecidableEq, Repr

/-- A release queue entry (Table 7-2); its wait follows from the rest (R136). -/
structure ReleaseEntry where
  /-- The bay to be released. -/
  bay : BayId
  /-- The kind. -/
  kind : ReleaseKind
  /-- The hold window in ms. -/
  holdWindow : Nat
  /-- The pulse length in ms. -/
  pulse : Nat
  /-- The retry flag. -/
  retry : Bool
  /-- The time made: the admission. -/
  made : Nat
  /-- The mode wait is open (R158). -/
  modeWait : Bool
  /-- The wait limit has fallen (R137). -/
  limitFallen : Bool
  deriving DecidableEq, Repr

/-- What a queued entry waits for (R136). -/
inductive EntryWait where
  | mode | provision | power | driver
  deriving DecidableEq, Repr

/-- What an assigned driver does (section 7.4). -/
inductive DriverPhase where
  /-- Not energized until the time given (R139). -/
  | prepare (untilTime : Nat)
  /-- Energized at pulse power from one time to the other; whether retraction has been seen (R140). -/
  | pulse (energized untilTime : Nat) (seen : Bool)
  /-- Energized at hold power until the time given (R145). -/
  | hold (untilTime : Nat)
  deriving DecidableEq, Repr

/-- The two latch drivers (section 7.4). -/
inductive DriverId where
  | d1 | d2
  deriving DecidableEq, Repr

/-- A latch driver: free, or assigned to the bay of the entry it took, with the opened mark of the release. -/
inductive Driver where
  | free
  | assigned (entry : ReleaseEntry) (phase : DriverPhase) (opened : Bool)
  deriving DecidableEq, Repr

/-- The outcomes of a release record (Table 8-4), but for "none". -/
inductive ReleaseOutcome where
  | waiting | opened | taken | notTaken | returned | notReturned | closed | notOpened | fault | dropped
  deriving DecidableEq, Repr

/-- A release record (R164). -/
structure ReleaseRecord where
  /-- The kind of the most recent admitted release. -/
  kind : ReleaseKind
  /-- Its outcome. -/
  outcome : ReleaseOutcome
  deriving DecidableEq, Repr

/-- What the Lock Controller holds for one bay (Table 7-4, R162 to R164). -/
structure LkcBay where
  /-- The lock state; none until the station leaves STARTING. -/
  lock : Option LockState
  /-- The door reading: open. -/
  doorOpen : Bool
  /-- The bolt reading: retracted. -/
  boltRetracted : Bool
  /-- For how many ms without a break the door switch has read the other level than its reading (R130). -/
  doorRun : Nat
  /-- For how many ms without a break the bolt switch has read the other level than its reading (R130). -/
  boltRun : Nat
  /-- The end of the extend wait, while it runs (R131). -/
  extendUntil : Option Nat
  /-- The end of COOLDOWN, while it runs (R142). -/
  cooldownUntil : Option Nat
  /-- The jam count, 0 to 2. -/
  jams : Nat
  /-- The last retract time in ms, if any (R140). -/
  lastRetract : Option Nat
  /-- The quarantine flag (R162). -/
  quarantine : Bool
  /-- The assignment, if any (R163). -/
  assignment : Option Tag
  /-- The release record, if any (R164). -/
  release : Option ReleaseRecord
  deriving DecidableEq, Repr

/-- The state of the Lock Controller (chapters 7 and 8). -/
structure Lkc where
  /-- The release queue, at most 8 entries, front first (R135). -/
  queue : List ReleaseEntry
  /-- Latch driver 1. -/
  driver1 : Driver
  /-- Latch driver 2. -/
  driver2 : Driver
  /-- The bays. -/
  bays : PerBay LkcBay
  deriving DecidableEq, Repr

/-! ### Notice Unit -/

/-- The notice kinds (Table 9-4). -/
inductive NoticeKind where
  | started | configDefaults | configFault | idClash | isolated | rejoined | ceilingMismatch | countMismatch
  | trimmed | derate | thermalCut | sensorFault | supplyFault | seatedTablet | wrongBay | unseated | released
  | notOpened | notTaken | forced | jammed | lockFault | latchSlow | unsecured | noPower | packageDone
  | deliveryFailed | loadFault | tabletModeUnset
  deriving DecidableEq, Repr

/-- A notice as a block raises it (Table 9-4). -/
structure Notice where
  /-- The kind. -/
  kind : NoticeKind
  /-- The bay, 1 to 8; 0 for a kind that concerns the whole station. -/
  bay : Nat
  /-- The detail, 0 to 65,535. -/
  detail : Nat
  deriving DecidableEq, Repr

/-- An entry of the pending notice set (R175). -/
structure Pending where
  /-- The kind. -/
  kind : NoticeKind
  /-- The bay, 0 to 8. -/
  bay : Nat
  /-- The latest detail raised. -/
  detail : Nat
  /-- The occurrence count, 1 to 15. -/
  count : Nat
  /-- The level of the kind when the entry was made. -/
  level : Nat
  /-- The time of first occurrence. -/
  first : Nat
  deriving DecidableEq, Repr

/-- The state of the Notice Unit but for the notice levels, which stand among the settings (section 9.4). -/
structure Ntu where
  /-- The pending set, at most 16 entries, oldest first (R175). -/
  entries : List Pending
  /-- The mask level m, 0 to 7 (R177). -/
  mask : Nat
  /-- The overflow indicator (R176). -/
  overflow : Bool
  deriving DecidableEq, Repr

/-! ### Start-up Loader -/

/-- The causes of a reset (R180). -/
inductive ResetCause where
  | powerOn | resetInput | restart
  deriving DecidableEq, Repr

/-- The strap values (Table 10-1). -/
structure Straps where
  /-- The station id. -/
  sid : StationId
  /-- The ceiling index. -/
  csel : BitVec 3
  /-- The image is to be read. -/
  romen : Bool
  deriving DecidableEq, Repr

/-- The image check results (Table 10-2). -/
inductive ImageCheck where
  | notRead | absent | noMarker | faultCrc | faultRead | faultLength | good
  deriving DecidableEq, Repr

/-- The settings of Table 10-3, with C_sel as R183 settles it (DESIGN CHOICE, log entry 31). -/
structure Settings where
  /-- N_cfg. -/
  nCfg : Nat
  /-- The refresh interval in ms. -/
  refresh : Nat
  /-- The raise hold in ms. -/
  raiseHold : Nat
  /-- The ceiling source: ITEM rather than PINS. -/
  sourceItem : Bool
  /-- The ceiling index item. -/
  ceilingIndex : Nat
  /-- The ceiling list, entries 0 to 7. -/
  ceilings : List Nat
  /-- The selected ceiling C_sel (R183). -/
  cSel : Nat
  /-- The class count K. -/
  classes : Nat
  /-- The profile table, entries 0 to 63. -/
  profile : List ProfileEntry
  /-- The default urgency weight. -/
  defaultWeight : Nat
  /-- The checkout minimum. -/
  checkoutMin : Nat
  /-- The provisioning minimum. -/
  provisionMin : Nat
  /-- T_hi. -/
  tHi : Int
  /-- T_lo. -/
  tLo : Int
  /-- T_cut. -/
  tCut : Int
  /-- The pulse count n. -/
  pulseCount : Nat
  /-- The hold window in seconds. -/
  holdWindow : Nat
  /-- The notice levels, in order of kind code from 1 to 29. -/
  levels : List Nat
  deriving DecidableEq, Repr

/-- How far the Start-up Loader has come (chapter 10). -/
inductive LoaderPhase where
  /-- Reset is held; the straps are not sampled. -/
  | held
  /-- The EEPROM is being addressed; so many attempts have gone unanswered, and the next falls at the time given. -/
  | addressing (attempts next : Nat)
  /-- The working set may be settled and installed. -/
  | ready
  /-- The settings are installed, or the station is HALTED. -/
  | finished
  deriving DecidableEq, Repr

/-- The state of the Start-up Loader (chapter 10). -/
structure Sul where
  /-- The cause of the last reset. -/
  cause : ResetCause
  /-- The progress of the loader. -/
  phase : LoaderPhase
  /-- The strap values, once sampled. -/
  straps : Option Straps
  /-- The image check result, once there is one. -/
  check : Option ImageCheck
  /-- The bytes of a GOOD image, which is still to be applied. -/
  image : List Byte
  /-- The working set of settings. -/
  working : Settings
  deriving DecidableEq, Repr

end Sys2Proof.Machine
end

