-- ==== Sys2Proof/Machine/Formats.lean ====
section
/-! DEFINITION. Chapter 11: byte order, the two CRCs, the code tables, and the frames and messages the part sends. -/

namespace Sys2Proof.Machine

/-! ### Encodings (R186) -/

/-- A number as one byte. -/
def byteOf (n : Nat) : Byte :=
  BitVec.ofNat 8 n

/-- A number as two bytes, low-order byte first (R186). -/
def wordOf (n : Nat) : List Byte :=
  [byteOf n, byteOf (n / 256)]

/-- The number of two bytes sent low-order byte first (R186). -/
def wordAt (lo hi : Byte) : Nat :=
  lo.toNat + 256 * hi.toNat

/-- A flag as a byte. -/
def flagByte (b : Bool) : Byte :=
  if b then 1 else 0

/-- Whether a set of bays holds a bay: bit 0 stands for bay 1 (R186). -/
def bayIn (bays : Byte) (b : BayId) : Bool :=
  bays.getLsbD (b.num - 1)

/-- A set of bays as one byte (R186). -/
def bayBits (p : PerBay Bool) : Nat :=
  (BayId.all.map fun b => if p.get b then 2 ^ (b.num - 1) else 0).sum

/-- A character that an asset tag may hold: A to Z, 0 to 9 or "-" (R186). -/
def tagChar (c : Byte) : Bool :=
  let n := c.toNat
  (0x41 ≤ n && n ≤ 0x5A) || (0x30 ≤ n && n ≤ 0x39) || n == 0x2D

/-- An asset tag: 12 allowed characters (R186). -/
def tagOk (t : Tag) : Bool :=
  t.length == 12 && t.all tagChar

/-- Twelve bytes of 0x00: the clear form of ASSIGN, and "none" in a report (R186, Table 11-3). -/
def noTag : Tag :=
  List.replicate 12 0

/-- A tag in a report, 12 bytes of 0x00 for none (Table 11-3). -/
def tagBytes (t : Option Tag) : List Byte :=
  t.getD noTag

/-! ### CRCs (R187) -/

/-- One bit of the CRC-16 register. -/
def crc16Bit (r : BitVec 16) : BitVec 16 :=
  if r.msb then (r <<< 1) ^^^ 0x1021 else r <<< 1

/-- One byte fed to the CRC-16, most significant bit first. -/
def crc16Byte (r : BitVec 16) (b : Byte) : BitVec 16 :=
  Nat.repeat crc16Bit 8 (r ^^^ (b.zeroExtend 16 <<< 8))

/-- The CRC-16: polynomial 0x1021, register from 0xFFFF, no reflection, no final inversion (R187). -/
def crc16 (bytes : List Byte) : BitVec 16 :=
  bytes.foldl crc16Byte 0xFFFF

/-- The two CRC-16 bytes, high-order byte first (R186, R187). -/
def crc16Bytes (bytes : List Byte) : List Byte :=
  let c := (crc16 bytes).toNat
  [byteOf (c / 256), byteOf c]

/-- One bit of the CRC-8 register. -/
def crc8Bit (r : Byte) : Byte :=
  if r.msb then (r <<< 1) ^^^ 0x07 else r <<< 1

/-- The CRC-8: polynomial 0x07, register from 0x00, no reflection, no final inversion (R187). -/
def crc8 (bytes : List Byte) : Byte :=
  bytes.foldl (fun r b => Nat.repeat crc8Bit 8 (r ^^^ b)) 0

/-! ### Codes (Tables 11-2 to 11-6) -/

/-- Table 11-4: the station bus state. -/
def StationState.code : StationState → Nat
  | .starting => 0 | .listen => 1 | .active => 2 | .isolated => 3 | .clashed => 4 | .halted => 5

/-- Table 11-4: the release kind. -/
def ReleaseKind.code : ReleaseKind → Nat
  | .checkout => 1 | .returning => 2 | .service => 3

/-- Table 11-4: the release kind of a code (R154). -/
def ReleaseKind.ofCode? : Byte → Option ReleaseKind
  | 1 => some .checkout
  | 2 => some .returning
  | 3 => some .service
  | _ => none

/-- Table 11-4: the lock state. -/
def LockState.code : LockState → Nat
  | .locked => 1 | .queued => 2 | .prepare => 3 | .pulse => 4 | .hold => 5 | .opened => 6 | .cooldown => 7
  | .lockFault => 8 | .unsecured => 9

/-- Table 11-4: the package state. -/
def PackageState.code : PackageState → Nat
  | .loading => 1 | .ready => 2 | .withdrawing => 3 | .complete => 4 | .loadFault => 5 | .checkFault => 6

/-- Table 11-4: the per-bay outcome. -/
def PkgOutcome.code : PkgOutcome → Nat
  | .pending => 1 | .delivered => 2 | .endedByTablet _ => 3 | .hadIt => 4 | .failed => 5 | .refused => 6 | .full => 7

/-- Table 11-3: the residual of an outcome, 0 for none. -/
def PkgOutcome.residual : PkgOutcome → Nat
  | .endedByTablet r => r
  | _ => 0

/-- Table 11-4: the dock state. -/
def DockState.code : DockState → Nat
  | .empty => 0 | .seated => 1 | .active => 2 | .asleep => 3

/-- Table 11-4: the supply state. -/
def SupplyState.code : SupplyState → Nat
  | .idle => 0 | .run => 1 | .fault => 2

/-- Table 11-4: the phase, 255 for none. -/
def phaseCode : Option Phase → Nat
  | some .wake => 0 | some .bulk => 1 | some .taper => 2 | some .hold => 3 | none => 255

/-- R51, Table 11-3: the derate level, CUT as 4. -/
def DerateLevel.code : DerateLevel → Nat
  | .l0 => 0 | .l1 => 1 | .l2 => 2 | .l3 => 3 | .cut => 4

/-- Table 11-4: the release record outcome. -/
def ReleaseOutcome.code : ReleaseOutcome → Nat
  | .waiting => 1 | .opened => 2 | .taken => 3 | .notTaken => 4 | .returned => 5 | .notReturned => 6 | .closed => 7
  | .notOpened => 8 | .fault => 9 | .dropped => 10

/-- Table 11-4: the release entry wait. -/
def EntryWait.code : EntryWait → Nat
  | .mode => 1 | .provision => 2 | .power => 3 | .driver => 4

/-- Table 11-4: the transfer result. -/
def TransferResult.code : TransferResult → Nat
  | .delivered => 1 | .hadIt => 2 | .refused => 3 | .endedByTablet _ => 4 | .failedAttempt => 5 | .aborted _ => 6

/-- Table 11-4: the abort cause; 0 when the result is not ABORTED (Table 11-3). -/
def TransferResult.causeCode : TransferResult → Nat
  | .aborted .withdrawn => 1 | .aborted .lockState => 2 | .aborted .takeover => 3 | .aborted .removed => 4
  | _ => 0

/-- Table 11-3: the residual of a transfer result, 0 when it is not ENDED_BY_TABLET. -/
def TransferResult.residual : TransferResult → Nat
  | .endedByTablet r => r
  | _ => 0

/-- The result codes of a REPLY (Table 9-2). -/
inductive ResultCode where
  | accepted | done | badBay | badValue | emptyBay | occupied | notReady | lowCharge | quarantined | wrongTablet
  | busy | lockFault | duplicate | noEntry | noRoom | badLength | badTarget | unknownPackage | unknownKind
  deriving DecidableEq, Repr

/-- Table 11-5. -/
def ResultCode.code : ResultCode → Nat
  | .accepted => 0 | .done => 1 | .badBay => 2 | .badValue => 3 | .emptyBay => 4 | .occupied => 5 | .notReady => 6
  | .lowCharge => 7 | .quarantined => 8 | .wrongTablet => 9 | .busy => 10 | .lockFault => 11 | .duplicate => 12
  | .noEntry => 13 | .noRoom => 14 | .badLength => 15 | .badTarget => 16 | .unknownPackage => 17 | .unknownKind => 18

/-- Table 11-6: the notice kind codes, 1 to 29. -/
def NoticeKind.code : NoticeKind → Nat
  | .started => 1 | .configDefaults => 2 | .configFault => 3 | .idClash => 4 | .isolated => 5 | .rejoined => 6
  | .ceilingMismatch => 7 | .countMismatch => 8 | .trimmed => 9 | .derate => 10 | .thermalCut => 11
  | .sensorFault => 12 | .supplyFault => 13 | .seatedTablet => 14 | .wrongBay => 15 | .unseated => 16
  | .released => 17 | .notOpened => 18 | .notTaken => 19 | .forced => 20 | .jammed => 21 | .lockFault => 22
  | .latchSlow => 23 | .unsecured => 24 | .noPower => 25 | .packageDone => 26 | .deliveryFailed => 27
  | .loadFault => 28 | .tabletModeUnset => 29

/-- R67: the detail value of a supply fault condition. -/
def conditionCode : SupplyCondition → Nat
  | .overSetpoint => 1 | .overCurrent => 2 | .underVoltage => 3

/-- R180: the cause of a reset as the detail of STARTED. -/
def ResetCause.code : ResetCause → Nat
  | .powerOn => 1 | .resetInput => 2 | .restart => 3

/-! ### Cart bus frames (R3, R4, Table 11-1) -/

/-- R4, Table 1-2: the priority of a listed kind, and whether its route is 11, to all stations. -/
def kindRule (kind : Byte) : Option (Nat × Bool) :=
  let k := kind.toNat
  if k = 0x01 || k = 0x02 then some (0, true)
  else if (0x10 ≤ k && k ≤ 0x19) || k = 0x20 then some (1, false)
  else if k = 0x21 || k = 0x22 then some (2, false)
  else if k = 0x30 then some (3, false)
  else none

/-- A frame's contents: sender, destination (absent when the route is 11), kind and payload (R3). -/
structure BusFrame where
  /-- The sender id. -/
  sender : StationId
  /-- The destination id character, present when the route is 00. -/
  dest : Option Byte
  /-- The kind code. -/
  kind : Byte
  /-- The payload. -/
  payload : List Byte
  deriving DecidableEq, Repr

/-- The head character: bits 7-6 priority, bits 5-2 sender id, bits 1-0 route (Table 11-1). -/
def headByte (priority : Nat) (sender : StationId) (toAll : Bool) : Byte :=
  byteOf (64 * priority + 4 * sender.toNat + if toAll then 3 else 0)

/-- The data bytes of a frame from the head to the last payload character (R3). -/
def BusFrame.body (f : BusFrame) (priority : Nat) : List Byte :=
  headByte priority f.sender f.dest.isNone :: f.dest.toList ++ [f.kind, byteOf f.payload.length] ++ f.payload

/-- The data bytes of a whole frame, its CRC-16 included (R3, R187). -/
def BusFrame.bytes (f : BusFrame) (priority : Nat) : List Byte :=
  f.body priority ++ crc16Bytes (f.body priority)

/-- Table 11-2: the kind code of a frame the shelf sends. -/
def TxKind.code : TxKind → Byte
  | .claim => 0x01 | .reply => 0x20 | .report => 0x21 | .notice => 0x22

/-- Table 1-2: the priority of a frame the shelf sends. -/
def TxKind.priority : TxKind → Nat
  | .claim => 0 | .reply => 1 | .report => 2 | .notice => 2

/-- The frame on the bus for a queued frame: a CLAIM goes to all stations, the others to station 0 (Table 1-2). -/
def TxFrame.onBus (own : StationId) (f : TxFrame) : BusFrame where
  sender := own
  dest := if f.kind = .claim then none else some 0
  kind := f.kind.code
  payload := f.payload

/-- The data bytes the part sends for a queued frame (R3). -/
def TxFrame.bytes (own : StationId) (f : TxFrame) : List Byte :=
  (f.onBus own).bytes f.kind.priority

/-- Table 11-2: the payload of a CLAIM. -/
def ClaimFigures.bytes (c : ClaimFigures) : List Byte :=
  [flagByte c.isolated, byteOf c.d, byteOf c.f, byteOf c.w, byteOf c.a] ++ wordOf c.cSel ++
    [byteOf c.nCfg, flagByte c.trimmed]

/-! ### Dock line messages (R72, Table 11-7) -/

/-- Table 11-7: the code of a request's kind. -/
def Request.code : Request → Nat
  | .ident => 1 | .status => 2 | .mode _ => 3 | .pkgBegin .. => 4 | .pkgBlock .. => 5 | .pkgEnd _ => 6

/-- Table 11-7: the payload of a request. The check value, a CRC-16, goes high-order byte first (DEDUCED, log entry
36). -/
def Request.payload : Request → List Byte
  | .ident => []
  | .status => []
  | .mode free => [flagByte free]
  | .pkgBegin id length check => [byteOf id, byteOf length] ++ (wordOf check).reverse
  | .pkgBlock index data => byteOf index :: data
  | .pkgEnd id => [byteOf id]

/-- The characters of a message: lead, kind, length, payload and the CRC-8 over kind, length and payload (R72, R187). -/
def dockMessage (kind : Nat) (payload : List Byte) : List Byte :=
  let covered := byteOf kind :: byteOf payload.length :: payload
  0xA5 :: covered ++ [crc8 covered]

/-- The characters an engine sends for a request (R72). -/
def Request.message (r : Request) : List Byte :=
  dockMessage r.code r.payload

/-- Table 11-7: the length of the reply to a request. -/
def Request.replyLength : Request → Nat
  | .ident => 16 | .status => 3 | .mode _ => 1 | .pkgBegin .. => 1 | .pkgBlock .. => 2 | .pkgEnd _ => 1

end Sys2Proof.Machine
end

