-- ==== Sys2Proof/Machine/Operands.lean ====
section
/-! DEFINITION. The operand forms: how the payload of a frame or of a dock line reply is read, with the clamps of
the rules that take it. -/

namespace Sys2Proof.Machine

/-- A value clamped to a range (section 0.5.3). -/
def clamp (lo hi n : Nat) : Nat :=
  max lo (min hi n)

/-- A temperature clamped to a range (section 0.5.3). -/
def clampInt (lo hi n : Int) : Int :=
  max lo (min hi n)

/-- A current rounded down to 50 mA (section 0.5.3). -/
def down50 (n : Nat) : Nat :=
  n / 50 * 50

/-! ### Cart bus payloads -/

/-- The bay a bay byte names: none for 0 and above 8, which a command answers BAD_BAY. -/
def bayOf (b : Byte) : Option BayId :=
  BayId.ofNum? b.toNat

/-- R20, Table 11-2: the figures of a CLAIM payload of the required length, clamped as they are stored; a state byte
other than ISOLATED is stored as ACTIVE, a trimmed byte other than 0 and 1 is open (DESIGN CHOICE, log entry 10). -/
def readClaim : List Byte → Option ClaimFigures
  | [state, d, f, w, a, c0, c1, n, t] =>
    let dd := min 212 d.toNat
    some
      { isolated := state == 1
        d := dd
        f := min dd f.toNat
        w := max 1 w.toNat
        a := min 212 a.toNat
        cSel := clamp 100 2400 (wordAt c0 c1)
        nCfg := clamp 1 15 n.toNat
        trimmed := if t == 1 then true else if t == 0 then false else Config.trimmedCode t }
  | _ => none

/-- R24: the panel limit that a LIMIT value sets; none for 0. -/
def panelLimitOf (value : Nat) : Option Nat :=
  if value = 0 then none else some (clamp 100 2400 value)

/-- R24, R186: the value of a LIMIT payload of the required length. -/
def readLimit : List Byte → Option Nat
  | [lo, hi] => some (wordAt lo hi)
  | _ => none

/-- R154: the hold window in ms of a hold window byte, the configured one in seconds given. -/
def holdWindowOf (configured : Nat) (value : Byte) : Nat :=
  1000 * if value.toNat = 0 then configured else clamp 2 20 value.toNat

/-- R47: the fixed current of a current field. -/
def fixedCurrentOf (value : Nat) : Nat :=
  down50 (min 2700 value)

/-! ### Dock line reply payloads: none makes the reply a bad reply (R72) -/

/-- R78: the battery percent of a reply; 255 is unknown, 101 to 254 is clamped. -/
def percentOf (b : Byte) : Option Nat :=
  if b.toNat = 255 then none else some (min 100 b.toNat)

/-- A flag that a reply carries as 0 or 1 and no other value (R78, R79). -/
def flagOf? (b : Byte) : Option Bool :=
  if b = 0 then some false else if b = 1 then some true else none

/-- R78, Table 11-7: the tablet record of an IDENT reply taken at a time. -/
def readIdent (now : Nat) (payload : List Byte) : Option TabletRecord :=
  match payload.drop 12 with
  | [cls, percent, inhibit, mode] =>
    match flagOf? inhibit, flagOf? mode with
    | some i, some m =>
      if tagOk (payload.take 12) && decide (cls.toNat ≤ 7) then
        some { tag := payload.take 12, cls := cls.toNat, percent := percentOf percent, inhibit := i, free := m,
               answeredAt := now }
      else none
    | _, _ => none
  | _ => none

/-- R79, R86: the percent, inhibit flag and mode flag of a STATUS reply. -/
def readStatus : List Byte → Option (Option Nat × Bool × Bool)
  | [percent, inhibit, mode] =>
    match flagOf? inhibit, flagOf? mode with
    | some i, some m => some (percentOf percent, i, m)
    | _, _ => none
  | _ => none

/-- R79, R87: the mode flag of a MODE reply. -/
def readMode : List Byte → Option Bool
  | [mode] => flagOf? mode
  | _ => none

/-- The replies to PKG_BEGIN (R112). -/
inductive BeginReply where
  | accept | hadIt | refuse
  deriving DecidableEq, Repr

/-- R112, Table 11-7: the reply to PKG_BEGIN. -/
def readBegin : List Byte → Option BeginReply
  | [c] => if c = 0 then some .accept else if c = 1 then some .hadIt else if c = 2 then some .refuse else none
  | _ => none

/-- The replies to PKG_BLOCK (R113). -/
inductive BlockReply where
  | ok | bad | stop | lost
  deriving DecidableEq, Repr

/-- R113, Table 11-7: the reply to a PKG_BLOCK of an index; one that names another index is a bad reply. -/
def readBlock (index : Nat) : List Byte → Option BlockReply
  | [c, i] =>
    if i.toNat = index then
      if c = 0 then some .ok else if c = 1 then some .bad else if c = 2 then some .stop
      else if c = 3 then some .lost else none
    else none
  | _ => none

/-- R114, Table 11-7: the reply to PKG_END, true for DONE and false for BAD. -/
def readEnd : List Byte → Option Bool
  | [c] => if c = 0 then some true else if c = 1 then some false else none
  | _ => none

end Sys2Proof.Machine
end

