-- ==== Sys2Proof/Machine/Defaults.lean ====
section
/-! DEFINITION. The defaults of the settings (Tables 3-2, 9-4 and 10-3) and the per-bay values after reset. -/

namespace Sys2Proof.Machine

/-- Table 3-2: the default profile table. -/
def defaultProfile : List ProfileEntry :=
  List.replicate 3 ⟨500, false, .wake⟩ ++ List.replicate 48 ⟨2000, true, .bulk⟩ ++
  List.replicate 9 ⟨1000, true, .taper⟩ ++ List.replicate 3 ⟨500, false, .taper⟩ ++ [⟨0, false, .hold⟩]

/-- Table 10-3: the default ceiling list. -/
def defaultCeilings : List Nat :=
  [300, 400, 500, 600, 800, 1000, 1200, 1440]

/-- Table 9-4: the default notice levels, in order of kind code. -/
def defaultLevels : List Nat :=
  [4, 5, 6, 7, 6, 3, 5, 5, 4, 4, 7, 5, 6, 2, 4, 6, 3, 4, 4, 7, 6, 7, 3, 6, 5, 2, 4, 5, 4]

/-- Table 10-3: the defaults of the settings. C_sel is the default entry 0 until R183 settles it (DESIGN CHOICE, log
entry 4). -/
def Settings.default : Settings where
  nCfg := 15
  refresh := 500
  raiseHold := 200
  sourceItem := false
  ceilingIndex := 0
  ceilings := defaultCeilings
  cSel := 300
  classes := 1
  profile := defaultProfile
  defaultWeight := 4
  checkoutMin := 30
  provisionMin := 15
  tHi := 45
  tLo := 40
  tCut := 60
  pulseCount := 29
  holdWindow := 6
  levels := defaultLevels

/-- A setpoint that turns the output off, at 5 V (DESIGN CHOICE, log entry 4 for the voltage). -/
def Setpoint.off : Setpoint where
  current := 0
  nineVolt := false

/-- Table 3-7: the measurements after reset: no power, nothing found (DESIGN CHOICE, log entry 4, for the readings). -/
def Meter.reset : Meter where
  current := 0
  voltage := 0
  powers := []
  overFor := 0
  surge := false
  underFor := 0

/-- Table 3-7: a bay of the Bay Supply Controller after reset, with the default urgency weight given. -/
def BscBay.reset (weight : Nat) : BscBay where
  supply := .idle
  fixed := none
  weight := weight
  phase := none
  chargeCurrent := 0
  chargeNine := false
  request := 0
  floor := 0
  demand := 0
  grant := 0
  computed := Setpoint.off
  applied := Setpoint.off
  rise := none
  offSince := none
  meter := Meter.reset

/-- Tables 4-5 and 6-3: a bay of the Dock Line Controller after reset; the presence debounce is stopped. -/
def DlcBay.reset : DlcBay where
  dock := .empty
  presenceRun := none
  record := none
  lastTablet := none
  misses := 0
  pollUntil := none
  identUntil := none
  transfer := none
  lastEnd := none

/-- Tables 5-5 and 6-3: a bay of the Package Store after reset. -/
def PksBay.reset : PksBay where
  list := []
  retryUntil := none

/-- Table 7-4, R162 to R164: a bay of the Lock Controller after reset. The readings are taken at leaving STARTING;
until then they stand at closed and extended (DESIGN CHOICE, log entry 4). -/
def LkcBay.reset : LkcBay where
  lock := none
  doorOpen := false
  boltRetracted := false
  doorRun := 0
  boltRun := 0
  extendUntil := none
  cooldownUntil := none
  jams := 0
  lastRetract := none
  quarantine := false
  assignment := none
  release := none

/-- A sensor after reset: good, no reading yet (Table 3-7). -/
def Sensor.reset : Sensor where
  last := none
  faulty := false

end Sys2Proof.Machine
end

