-- ==== Sys2Proof/Machine/State.lean ====
section
/-! DEFINITION. The state of the part: what its eight blocks hold, the queue of commands that wait, and three
counters of the model's own. The part right after reset. -/

namespace Sys2Proof.Machine

/-- The reasons for which a step would stop with a fault. There is none: the manual gives every event of the table an
effect in every state, if only that nothing changes, and calls no behaviour undefined. Safe: no run ends here
(DEDUCED, log entry 16). -/
inductive Fault where
  deriving DecidableEq, Repr

/-- The reasons for which a step is refused. -/
inductive Refusal where
  /-- Raised by an arm of exec whose command has no meaning yet, under its mnemonic; no arm raises it now. Safe: the
  machine stops where the part goes on. -/
  | notModelled (mnemonic : String)
  deriving DecidableEq, Repr

/-- The state of the part. -/
structure State where
  /-- The commands that wait, first in, first out. The model's own. -/
  pending : List Instr
  /-- The millisecond clock against which every timer is held. The model's own (DESIGN CHOICE, log entry 2). -/
  now : Nat
  /-- The running number of the next free value. The model's own (DESIGN CHOICE, log entry 6). -/
  free : Nat
  /-- The settings installed at the handover (R184). -/
  settings : Settings
  /-- Cart Bus Interface. -/
  cbi : Cbi
  /-- Share Unit. -/
  shu : Shu
  /-- Bay Supply Controller. -/
  bsc : Bsc
  /-- Dock Line Controller. -/
  dlc : Dlc
  /-- Package Store. -/
  pks : Pks
  /-- Lock Controller. -/
  lkc : Lkc
  /-- Notice Unit. -/
  ntu : Ntu
  /-- Start-up Loader. -/
  sul : Sul
  deriving DecidableEq, Repr

/-- The part right after a power-on reset, reset still held: R13, R39, Tables 2-4, 3-7, 4-5, 5-5, 6-3, 7-4 and 9-5.
The settings stand at their defaults until the Start-up Loader installs others (DESIGN CHOICE, log entry 4). -/
def State.reset : State where
  pending := []
  now := 0
  free := 0
  settings := Settings.default
  cbi :=
    { station := .starting, ownId := 0, queue := [], nextAge := 0, contending := none, onLine := none,
      mismatch := false, stuck := false, rxErrors := 0, listenUntil := none, isolationUntil := none }
  shu :=
    { peers := [], panelLimit := none, cEff := 300, rsv := 0, share := 0, floorGrant := 0, lapp := 0, raise := none,
      trimmed := false, refresh := .stopped, lastPlaced := none, d := 0, f := 0, w := 1 }
  bsc :=
    { derate := .l0, hot := 0, cool := 0, sensor1 := Sensor.reset, sensor2 := Sensor.reset,
      bays := PerBay.const (BscBay.reset 4) }
  dlc :=
    { queue := [], deferred := [], engine1 := .idle, engine2 := .idle, bays := PerBay.const DlcBay.reset }
  pks :=
    { store := [], table := [], nextSettle := 1, bays := PerBay.const PksBay.reset }
  lkc :=
    { queue := [], driver1 := .free, driver2 := .free, bays := PerBay.const LkcBay.reset }
  ntu :=
    { entries := [], mask := 0, overflow := false }
  sul :=
    { cause := .powerOn, phase := .held, straps := none, check := none, image := [], working := Settings.default }

end Sys2Proof.Machine
end

