-- ==== Sys2Proof/Machine/Ops.lean ====
section
/-! DEFINITION. The named operations over the state: reading and replacing what a block holds for one bay, the
package store's bytes, the transmit queue, the figures one block reads of another, and the record of one event in
progress with what it still has to bring about. -/

namespace Sys2Proof.Machine

/-! ### Bays and timers -/

/-- What the Bay Supply Controller holds for a bay. -/
def State.bscBay (s : State) (b : BayId) : BscBay :=
  s.bsc.bays.get b

/-- What the Dock Line Controller holds for a bay. -/
def State.dlcBay (s : State) (b : BayId) : DlcBay :=
  s.dlc.bays.get b

/-- What the Package Store holds for a bay. -/
def State.pksBay (s : State) (b : BayId) : PksBay :=
  s.pks.bays.get b

/-- What the Lock Controller holds for a bay. -/
def State.lkcBay (s : State) (b : BayId) : LkcBay :=
  s.lkc.bays.get b

/-- The state with a bay of the Bay Supply Controller replaced. -/
def State.setBscBay (s : State) (b : BayId) (x : BscBay) : State :=
  { s with bsc := { s.bsc with bays := s.bsc.bays.set b x } }

/-- The state with a bay of the Dock Line Controller replaced. -/
def State.setDlcBay (s : State) (b : BayId) (x : DlcBay) : State :=
  { s with dlc := { s.dlc with bays := s.dlc.bays.set b x } }

/-- The state with a bay of the Package Store replaced. -/
def State.setPksBay (s : State) (b : BayId) (x : PksBay) : State :=
  { s with pks := { s.pks with bays := s.pks.bays.set b x } }

/-- The state with a bay of the Lock Controller replaced. -/
def State.setLkcBay (s : State) (b : BayId) (x : LkcBay) : State :=
  { s with lkc := { s.lkc with bays := s.lkc.bays.set b x } }

/-- The clock moved on to the moment at which a timer expires, if that lies ahead (DESIGN CHOICE, log entry 2). -/
def State.upTo (s : State) (moment : Nat) : State :=
  { s with now := max s.now moment }

/-- R13, R69, R90, R107, R153: whether the blocks run and the CBI receives: LISTEN, ACTIVE, ISOLATED and CLASHED. -/
def State.runs (s : State) : Bool :=
  match s.cbi.station with
  | .starting => false
  | .listen => true
  | .active => true
  | .isolated => true
  | .clashed => true
  | .halted => false

/-! ### Conditions that must hold without a break (R67, R74, R130) -/

/-- For how many ms without a break a condition has held, after one ms more in which it holds or not. -/
def heldFor (holds : Bool) (run : Nat) : Nat :=
  if holds then run + 1 else 0

/-! ### The package store's bytes (R92) -/

/-- The address of a byte of an entry's block: store blocks have seven-bit numbers, so that no address outside the
4096 bytes can be formed (DEDUCED, log entry 11). -/
def storeAddress (base block offset : Nat) : Nat :=
  (base + block) % 128 * 32 + offset % 32

/-- What a byte reads as that nothing has written (DESIGN CHOICE, log entry 5). -/
def storeUnwritten : Byte := 0

/-- One byte of the store. -/
def storeRead : List Host.Cell → Nat → Byte
  | [], _ => storeUnwritten
  | (a, v) :: rest, x => if a = x then v else storeRead rest x

/-- A byte written: an unwritten value is not listed, so that equal stores are equal lists. -/
def storeWrite : List Host.Cell → Nat → Byte → List Host.Cell
  | [], x, v => if v = storeUnwritten then [] else [(x, v)]
  | (a, w) :: rest, x, v =>
    if x < a then (if v = storeUnwritten then (a, w) :: rest else (x, v) :: (a, w) :: rest)
    else if x = a then (if v = storeUnwritten then rest else (x, v) :: rest)
    else (a, w) :: storeWrite rest x v

/-- Bytes written from a byte offset of a block on. -/
def storeWriteFrom (m : List Host.Cell) (base block offset : Nat) : List Byte → List Host.Cell
  | [] => m
  | v :: rest => storeWriteFrom (storeWrite m (storeAddress base block offset) v) base block (offset + 1) rest

/-- The 32 bytes of an entry's block (R92). -/
def storeBlock (m : List Host.Cell) (base block : Nat) : List Byte :=
  (List.range 32).map fun i => storeRead m (storeAddress base block i)

/-- The form the listed bytes keep: addresses rise strictly and lie in the store, no listed byte is unwritten. -/
def storeWf : List Host.Cell → Bool
  | [] => true
  | [(a, v)] => decide (a < 4096) && decide (v ≠ storeUnwritten)
  | (a, v) :: (a', v') :: rest => decide (a < a') && decide (v ≠ storeUnwritten) && storeWf ((a', v') :: rest)

/-! ### The package table (section 5.2) -/

/-- The entry that carries an id. -/
def findPackage (t : List Package) (id : Nat) : Option Package :=
  t.find? fun p => p.id = id

/-- The table with the entry of an id changed. -/
def updatePackage (t : List Package) (id : Nat) (f : Package → Package) : List Package :=
  t.map fun p => if p.id = id then f p else p

/-- The table without the entry of an id: the entry is free. -/
def freePackage (t : List Package) (id : Nat) : List Package :=
  t.filter fun p => p.id ≠ id

/-- Table 5-2: whether a state holds blocks. -/
def PackageState.holdsBlocks : PackageState → Bool
  | .loading => true | .ready => true | .withdrawing => true
  | .complete => false | .loadFault => false | .checkFault => false

/-- Whether a package still has a target bay PENDING (R102). -/
def Package.anyPending (p : Package) : Bool :=
  BayId.all.any fun b =>
    match p.targets.get b with
    | some t => t.outcome == .pending
    | none => false

/-! ### The transmit queue (R9, R10) -/

/-- The free slots of the transmit queue. -/
def freeSlots (s : State) : Nat :=
  8 - s.cbi.queue.length

/-- Whether an own CLAIM waits in the transmit queue. -/
def claimWaits (s : State) : Bool :=
  s.cbi.queue.any fun f => f.kind = .claim

/-- How many NOTICE frames wait in the transmit queue. -/
def noticeFrames (s : State) : Nat :=
  (s.cbi.queue.filter fun f => f.kind = .notice).length

/-- A frame put in order: by priority, and behind the older frames of its priority (R9). -/
def insertFrame (f : TxFrame) : List TxFrame → List TxFrame
  | [] => [f]
  | x :: rest => if f.kind.priority < x.kind.priority then f :: x :: rest else x :: insertFrame f rest

/-- A frame placed in a slot of its own, with the next age (R9). -/
def placeFrame (kind : TxKind) (payload : List Byte) (marked : Bool) (s : State) : State :=
  let f : TxFrame := { kind := kind, payload := payload, marked := marked, age := s.cbi.nextAge }
  { s with cbi := { s.cbi with queue := insertFrame f s.cbi.queue, nextAge := s.cbi.nextAge + 1 } }

/-- A CLAIM placed: it takes the slot and the age of a waiting CLAIM, or a free slot (R9). -/
def placeClaimFrame (payload : List Byte) (s : State) : State :=
  if claimWaits s then
    { s with cbi := { s.cbi with
        queue := s.cbi.queue.map fun f => if f.kind = .claim then { f with payload := payload } else f } }
  else placeFrame .claim payload false s

/-! ### Figures read across blocks -/

/-- R149: the power of a driver: 10 W in PREPARE and PULSE, 2 W in HOLD. -/
def Driver.power : Driver → Nat
  | .free => 0
  | .assigned _ (.prepare _) _ => 10
  | .assigned _ (.pulse ..) _ => 10
  | .assigned _ (.hold _) _ => 2

/-- R149: the lock power in use. -/
def Lkc.power (l : Lkc) : Nat :=
  l.driver1.power + l.driver2.power

/-- R150: the lock floor. -/
def Lkc.floorPower (l : Lkc) : Nat :=
  if l.queue.isEmpty && l.driver1 == .free && l.driver2 == .free then 0 else 20

/-- R134: whether a release entry for a bay waits in the queue. -/
def Lkc.hasEntry (l : Lkc) (b : BayId) : Bool :=
  l.queue.any fun e => e.bay = b

/-- The release queue entry of a bay. -/
def Lkc.entry? (l : Lkc) (b : BayId) : Option ReleaseEntry :=
  l.queue.find? fun e => e.bay = b

/-- The bay a driver is assigned to. -/
def Driver.bay? : Driver → Option BayId
  | .free => none
  | .assigned e _ _ => some e.bay

/-- The driver of a number. -/
def Lkc.driver (l : Lkc) : DriverId → Driver
  | .d1 => l.driver1
  | .d2 => l.driver2

/-- The driver of a number replaced. -/
def Lkc.setDriver (l : Lkc) (i : DriverId) (d : Driver) : Lkc :=
  match i with
  | .d1 => { l with driver1 := d }
  | .d2 => { l with driver2 := d }

/-- The driver assigned to a bay. -/
def Lkc.driverOf? (l : Lkc) (b : BayId) : Option DriverId :=
  if l.driver1.bay? = some b then some .d1 else if l.driver2.bay? = some b then some .d2 else none

/-- R89: whether a CHECKOUT release for a bay stands in the queue or on a driver. -/
def Lkc.holdsCheckout (l : Lkc) (b : BayId) : Bool :=
  (l.queue.any fun e => e.bay = b && e.kind = .checkout) ||
    [l.driver1, l.driver2].any fun d =>
      match d with
      | .free => false
      | .assigned e _ _ => e.bay = b && e.kind = .checkout

/-! ### One event in progress -/

/-- One event: the state as it has come so far, and what the event has still to bring about. An event that is
several causes of one computation runs it once (R27, R58, R62), so that the causes are noted here. -/
structure Ev where
  /-- The state so far. -/
  s : State
  /-- The notices raised at this event (R175). -/
  raised : List Notice
  /-- The bays whose figures are to be computed (R58). -/
  figures : List BayId
  /-- The bays whose setpoints are to be computed (R58). -/
  setpoints : List BayId
  /-- The bays to be evaluated for delivery (R110). -/
  evals : List BayId
  /-- The work queue items placed at this event, by bay and kind (R80). -/
  placed : List (BayId × ItemKind)
  /-- The sums of bay figures or the lock floor changed: D, F and W are to be composed (R16). -/
  report : Bool
  /-- A share computation is to run (R27). -/
  share : Bool
  /-- The overdraw check is to follow the computation (R40). -/
  overdraw : Bool
  /-- The split is to run (R62). -/
  split : Bool
  /-- The readiness of the queued releases is to be reworked (R136). -/
  rework : Bool
  /-- The idle engines are to look for an item (R83). -/
  engines : Bool
  /-- A CLAIM is to be placed whatever its figures (R18). -/
  claim : Bool
  /-- The figures are to be tested against the last placed ones (R18). -/
  claimTest : Bool
  /-- The hold origin of the pending raise is to be fixed (R35). -/
  freshRaise : Bool
  /-- The Notice Unit tests for a handover (R178). -/
  handover : Bool

/-- An event at its start. -/
def Ev.start (s : State) : Ev where
  s := s
  raised := []
  figures := []
  setpoints := []
  evals := []
  placed := []
  report := false
  share := false
  overdraw := false
  split := false
  rework := false
  engines := false
  claim := false
  claimTest := false
  freshRaise := false
  handover := false

/-- A notice handed to the Notice Unit (R175). -/
def Ev.raiseNotice (kind : NoticeKind) (bay detail : Nat) (ev : Ev) : Ev :=
  { ev with raised := ev.raised ++ [{ kind := kind, bay := bay, detail := detail }] }

/-- The figures of a bay are to be computed (R58). -/
def Ev.needFigures (b : BayId) (ev : Ev) : Ev :=
  { ev with figures := ev.figures ++ [b] }

/-- A bay is to be evaluated for delivery (R110). -/
def Ev.needEval (b : BayId) (ev : Ev) : Ev :=
  { ev with evals := ev.evals ++ [b] }

/-- What the Bay Supply Controller holds for a bay, changed. -/
def Ev.updBsc (b : BayId) (f : BscBay → BscBay) (ev : Ev) : Ev :=
  { ev with s := ev.s.setBscBay b (f (ev.s.bscBay b)) }

/-- What the Dock Line Controller holds for a bay, changed. -/
def Ev.updDlc (b : BayId) (f : DlcBay → DlcBay) (ev : Ev) : Ev :=
  { ev with s := ev.s.setDlcBay b (f (ev.s.dlcBay b)) }

/-- What the Package Store holds for a bay, changed. -/
def Ev.updPks (b : BayId) (f : PksBay → PksBay) (ev : Ev) : Ev :=
  { ev with s := ev.s.setPksBay b (f (ev.s.pksBay b)) }

/-- What the Lock Controller holds for a bay, changed; its queue and drivers stand. -/
def Ev.updLkc (b : BayId) (f : LkcBay → LkcBay) (ev : Ev) : Ev :=
  { ev with s := ev.s.setLkcBay b (f (ev.s.lkcBay b)) }

/-- The Share Unit's state changed. -/
def Ev.setShu (shu : Shu) (ev : Ev) : Ev :=
  { ev with s := { ev.s with shu := shu } }

/-- The Cart Bus Interface's state changed. -/
def Ev.setCbi (cbi : Cbi) (ev : Ev) : Ev :=
  { ev with s := { ev.s with cbi := cbi } }

/-- The package table changed. -/
def Ev.setTable (t : List Package) (ev : Ev) : Ev :=
  { ev with s := { ev.s with pks := { ev.s.pks with table := t } } }

/-- The release queue and the drivers changed: a change of the lock power in use is handed to the split and reworks
the readiness, a change of the lock floor is handed to the Share Unit (R149, R150). -/
def Ev.setQueueAndDrivers (l : Lkc) (ev : Ev) : Ev :=
  { ev with
    s := { ev.s with lkc := l }
    split := ev.split || decide (l.power ≠ ev.s.lkc.power)
    rework := true
    report := ev.report || decide (l.floorPower ≠ ev.s.lkc.floorPower) }

end Sys2Proof.Machine
end

