-- ==== Sys2Proof/Machine/Flags.lean ====
section
/-! DEFINITION. The Notice Unit: its flags and pending set (section 9.4). How a raised notice is entered, merged or
dropped, and how a pending one is handed over. -/

namespace Sys2Proof.Machine

/-- R174: the level of a notice kind. -/
def noticeLevel (levels : List Nat) (kind : NoticeKind) : Nat :=
  levels.getD (kind.code - 1) 0

/-- R175: the order in which the notices of one event are entered: kind code, bay, detail. -/
def Notice.before (a b : Notice) : Bool :=
  decide (a.kind.code < b.kind.code) ||
    (decide (a.kind.code = b.kind.code) &&
      (decide (a.bay < b.bay) || (decide (a.bay = b.bay) && decide (a.detail ≤ b.detail))))

/-- A notice put in order among those of the event (R175). -/
def insertNotice (n : Notice) : List Notice → List Notice
  | [] => [n]
  | x :: rest => if n.before x then n :: x :: rest else x :: insertNotice n rest

/-- The notices of one event in the order in which they are entered (R175). -/
def orderNotices : List Notice → List Notice
  | [] => []
  | n :: rest => insertNotice n (orderNotices rest)

/-- R175: whether a pending entry is of a pair of kind and bay. -/
def Pending.isOf (kind : NoticeKind) (bay : Nat) (p : Pending) : Bool :=
  decide (p.kind = kind) && decide (p.bay = bay)

/-- R175: a repeat: the latest detail, and a count that stays at 15. -/
def Pending.again (detail : Nat) (p : Pending) : Pending :=
  { p with detail := detail, count := min 15 (p.count + 1) }

/-- R176: the lowest level present. -/
def lowestLevel (entries : List Pending) : Nat :=
  entries.foldl (fun m p => min m p.level) 7

/-- R176: the set without its oldest entry of a level. -/
def dropOldest (level : Nat) : List Pending → List Pending
  | [] => []
  | p :: rest => if p.level = level then rest else p :: dropOldest level rest

/-- R174 to R176: one notice entered at a time, with its level. -/
def enterNotice (levels : List Nat) (now : Nat) (n : Notice) (u : Ntu) : Ntu :=
  let level := noticeLevel levels n.kind
  let made : Pending :=
    { kind := n.kind, bay := n.bay, detail := n.detail, count := 1, level := level, first := now }
  if level = 0 then u
  else if u.entries.any (Pending.isOf n.kind n.bay) then
    { u with entries := u.entries.map fun p => if p.isOf n.kind n.bay then p.again n.detail else p }
  else if u.entries.length < 16 then { u with entries := u.entries ++ [made] }
  else if lowestLevel u.entries < level then
    { u with entries := dropOldest (lowestLevel u.entries) u.entries ++ [made], overflow := true }
  else { u with overflow := true }

/-- R175: the notices of an event entered in their order. -/
def enterNotices (levels : List Nat) (now : Nat) (ns : List Notice) (u : Ntu) : Ntu :=
  (orderNotices ns).foldl (fun u n => enterNotice levels now n u) u

/-- R178: the highest level among the entries above the mask, 0 if there is none. -/
def highestAbove (mask : Nat) (entries : List Pending) : Nat :=
  entries.foldl (fun m p => if mask < p.level then max m p.level else m) 0

/-- R178: the entry to be handed over: of the highest level above the mask, the oldest among equals. -/
def nextNotice (u : Ntu) : Option Pending :=
  u.entries.find? fun p => decide (u.mask < p.level) && decide (p.level = highestAbove u.mask u.entries)

/-- Table 11-2: the payload of a NOTICE frame. -/
def noticePayload (now : Nat) (overflow : Bool) (p : Pending) : List Byte :=
  [byteOf p.kind.code, byteOf p.bay] ++ wordOf p.detail ++ [byteOf p.count, byteOf p.level] ++
    wordOf (min 65535 (now - p.first)) ++ [flagByte overflow]

/-- R178, R179: whether the station bus state is one in which notices are handed over. -/
def StationState.sendsNotices : StationState → Bool
  | .active => true | .isolated => true | .clashed => true
  | .starting => false | .listen => false | .halted => false

/-- R178: one handover, when every condition holds. -/
def handOver (s : State) : State :=
  if s.cbi.station.sendsNotices && decide (noticeFrames s < 2) && decide (2 ≤ freeSlots s) then
    match nextNotice s.ntu with
    | none => s
    | some p =>
      let s' := placeFrame .notice (noticePayload s.now s.ntu.overflow p) false s
      { s' with ntu := { s.ntu with
          entries := s.ntu.entries.filter fun x => !x.isOf p.kind p.bay
          overflow := false } }
  else s

/-- R175, R178: the notices of the event are entered, and up to two entries handed over where an event of R178 has
come. -/
def Ev.notices (ev : Ev) : Ev :=
  let entered := enterNotices ev.s.settings.levels ev.s.now ev.raised ev.s.ntu
  let s := { ev.s with ntu := entered }
  let s' := if ev.handover || !ev.raised.isEmpty then handOver (handOver s) else s
  { ev with s := s', raised := [], handover := false }

end Sys2Proof.Machine
end

