-- ==== Sys2Proof/Machine/Dock.lean ====
section
/-! DEFINITION. The work queue of the Dock Line Controller (sections 4.4 and 4.5) and the eligibility of a bay for
delivery (section 6.2). -/

namespace Sys2Proof.Machine

/-! ### Items and engines -/

/-- Table 4-4: the class of an item kind. -/
def ItemKind.cls : ItemKind → Nat
  | .ident => 0 | .modeCart => 0 | .modeFree => 0
  | .status => 1
  | .package => 2

/-- Whether an item is of a bay and kind. -/
def WorkItem.isOf (b : BayId) (k : ItemKind) (x : WorkItem) : Bool :=
  decide (x.bay = b) && decide (x.kind = k)

/-- The bay an engine holds (R83). -/
def Engine.bay? : Engine → Option BayId
  | .idle => none
  | .busy x _ => some x.bay

/-- Whether an engine serves an item of a bay and kind. -/
def Engine.serves (b : BayId) (k : ItemKind) : Engine → Bool
  | .idle => false
  | .busy x _ => x.isOf b k

/-- The engine of a number. -/
def Dlc.engine (d : Dlc) : EngineId → Engine
  | .e1 => d.engine1
  | .e2 => d.engine2

/-- The engine of a number replaced. -/
def Dlc.setEngine (d : Dlc) (i : EngineId) (e : Engine) : Dlc :=
  match i with
  | .e1 => { d with engine1 := e }
  | .e2 => { d with engine2 := e }

/-- The other engine. -/
def EngineId.other : EngineId → EngineId
  | .e1 => .e2
  | .e2 => .e1

/-- The engine that holds a bay. -/
def Dlc.engineAt? (d : Dlc) (b : BayId) : Option EngineId :=
  if d.engine1.bay? = some b then some .e1 else if d.engine2.bay? = some b then some .e2 else none

/-- R80: whether an item of a bay and kind waits or is served. -/
def Dlc.stands (d : Dlc) (b : BayId) (k : ItemKind) : Bool :=
  d.queue.any (WorkItem.isOf b k) || d.engine1.serves b k || d.engine2.serves b k

/-! ### Placing items (R80, R81) -/

/-- The Dock Line Controller's queues and engines changed. -/
def Ev.setDlc (d : Dlc) (ev : Ev) : Ev :=
  { ev with s := { ev.s with dlc := d } }

/-- R80: whether a new item goes ahead of a waiting one: of a lower class, or of the same class, placed at the same
event and for a lower bay. -/
def goesAhead (placed : List (BayId × ItemKind)) (new x : WorkItem) : Bool :=
  decide (new.kind.cls < x.kind.cls) ||
    (decide (new.kind.cls = x.kind.cls) && placed.contains (x.bay, x.kind) && decide (new.bay.num < x.bay.num))

/-- R80: a new item put in order. -/
def insertItem (placed : List (BayId × ItemKind)) (new : WorkItem) : List WorkItem → List WorkItem
  | [] => [new]
  | x :: rest => if goesAhead placed new x then new :: x :: rest else x :: insertItem placed new rest

/-- R80: an item placed; an idle engine looks for an item (R83). -/
def Ev.placeItem (b : BayId) (k : ItemKind) (ev : Ev) : Ev :=
  let item : WorkItem := { bay := b, kind := k, placedAt := ev.s.now }
  { ev with
    s := { ev.s with dlc := { ev.s.dlc with queue := insertItem ev.placed item ev.s.dlc.queue } }
    placed := ev.placed ++ [(b, k)]
    engines := true }

/-- R81: the queue without its oldest STATUS item. -/
def dropStatus : List WorkItem → List WorkItem
  | [] => []
  | x :: rest => if x.kind = .status then rest else x :: dropStatus rest

/-- R81: a refused class 0 request kept, one per bay and kind. Requests deferred at one event are kept in the order in
which the event makes them (DESIGN CHOICE, log entry 42). -/
def defer (b : BayId) (k : ItemKind) (l : List Deferred) : List Deferred :=
  if l.any fun x => x.bay = b && x.kind = k then l else l ++ [{ bay := b, kind := k }]

/-- R80, R81: a request for an item: merged, placed, placed in the room of the oldest STATUS, dropped, deferred or
handed back (DEDUCED, log entry 24). -/
def Ev.request (b : BayId) (k : ItemKind) (ev : Ev) : Ev :=
  let d := ev.s.dlc
  if d.stands b k then ev
  else if d.queue.length < 16 then ev.placeItem b k
  else if k = .status then ev
  else if d.queue.any fun x => x.kind = .status then
    (ev.setDlc { d with queue := dropStatus d.queue }).placeItem b k
  else if k = .package then ev
  else ev.setDlc { d with deferred := defer b k d.deferred }

/-- R81: the oldest deferred request placed, as an item leaves the queue; an idle engine looks again (R82) (DEDUCED,
log entry 24). -/
def Ev.placeDeferred (ev : Ev) : Ev :=
  let ev := { ev with engines := true }
  match ev.s.dlc.deferred with
  | [] => ev
  | x :: rest => (ev.setDlc { ev.s.dlc with deferred := rest }).request x.bay x.kind

/-- R82: an item of a bay and kind leaves the queue. -/
def Ev.leaveQueue (b : BayId) (k : ItemKind) (ev : Ev) : Ev :=
  if ev.s.dlc.queue.any (WorkItem.isOf b k) then
    (ev.setDlc { ev.s.dlc with queue := ev.s.dlc.queue.filter fun x => !x.isOf b k }).placeDeferred
  else ev

/-- R123: an item put back at the head of class 2. -/
def putBack (item : WorkItem) : List WorkItem → List WorkItem
  | [] => [item]
  | x :: rest => if x.kind.cls < 2 then x :: putBack item rest else item :: x :: rest

/-! ### Eligibility (R109, R110) -/

/-- R109: the percent is at or above the provisioning minimum, unknown counting as below any above 0, or the grant is
6 W or more. -/
def powered (provisionMin : Nat) (record : Option TabletRecord) (grant : Nat) : Bool :=
  decide (6 ≤ grant) ||
    match record with
    | some r => decide (provisionMin ≤ r.percent.getD 0)
    | none => false

/-- R109: whether a bay is eligible for delivery. -/
def eligible (s : State) (b : BayId) : Bool :=
  !(s.pksBay b).list.isEmpty && decide ((s.dlcBay b).dock = .active) && decide ((s.lkcBay b).lock = some .locked) &&
    !s.lkc.hasEntry b && (s.pksBay b).retryUntil.isNone && (s.dlcBay b).transfer.isNone &&
    powered s.settings.provisionMin (s.dlcBay b).record (s.bscBay b).grant

/-- R110: a bay evaluated: an eligible one is offered a PACKAGE item. -/
def Ev.evaluate (ev : Ev) (b : BayId) : Ev :=
  if eligible ev.s b then ev.request b .package else ev

/-- R110: the bays of the event evaluated in ascending order. -/
def Ev.evaluateBays (ev : Ev) : Ev :=
  (BayId.all.filter fun b => ev.evals.contains b).foldl Ev.evaluate { ev with evals := [] }

end Sys2Proof.Machine
end

