-- ==== Sys2Proof/Machine/Delivery.lean ====
section
/-! DEFINITION. The dock engines and their exchanges (R71 to R73, R83 to R89) and package delivery (chapter 6). -/

namespace Sys2Proof.Machine

/-! ### The record and the dock state -/

/-- R88: the poll period of a dock state, in ms. -/
def pollPeriod : DockState → Nat
  | .asleep => 10000
  | .empty => 2000 | .seated => 2000 | .active => 2000

/-- R88, R85: the IDENT retry time in ms. -/
def identRetry : Nat := 10000

/-- R117: the retry delay in ms. -/
def retryDelay : Nat := 5000

/-- A bay's dock state changed, with its poll timer started for the new state: figures and evaluation follow. -/
def Ev.setDock (b : BayId) (d : DockState) (ev : Ev) : Ev :=
  let now := ev.s.now
  ((ev.updDlc b fun x => { x with dock := d, pollUntil := some (now + pollPeriod d) }).needFigures b).needEval b

/-- R73, R77, R115: a valid reply from a bay's tablet: the last-answer age and the miss count return to 0, and an
ASLEEP bay to ACTIVE. -/
def Ev.answered (b : BayId) (ev : Ev) : Ev :=
  let now := ev.s.now
  let ev' := ev.updDlc b fun x =>
    { x with misses := 0, record := x.record.map fun r => { r with answeredAt := now } }
  if (ev.s.dlcBay b).dock = .asleep then ev'.setDock b .active else ev'

/-- R79: a change of a bay's record. -/
def Ev.changeRecord (b : BayId) (f : TabletRecord → TabletRecord) (ev : Ev) : Ev :=
  ev.updDlc b fun x => { x with record := x.record.map f }

/-- R79, R86: the fields of a STATUS reply written into the record, with a change of percent or inhibit flag handed
on. -/
def Ev.writeStatus (b : BayId) (percent : Option Nat) (inhibit free : Bool) (ev : Ev) : Ev :=
  let old := (ev.s.dlcBay b).record
  let ev' := ev.changeRecord b fun r => { r with percent := percent, inhibit := inhibit, free := free }
  match old with
  | none => ev'
  | some r =>
    if r.percent = percent ∧ r.inhibit = inhibit then ev'
    else if r.percent = percent then ev'.needFigures b
    else (ev'.needFigures b).needEval b

/-- R89: a reply that carries the mode FREE: MODE_CART is requested on a LOCKED bay that no CHECKOUT release
concerns. -/
def Ev.modeHeld (b : BayId) (free : Bool) (ev : Ev) : Ev :=
  if free = true ∧ (ev.s.lkcBay b).lock = some .locked ∧ ev.s.lkc.holdsCheckout b = false then
    ev.request b .modeCart
  else ev

/-! ### Requests and item ends -/

/-- R73: a request sent as the first try of a new exchange, for an item. -/
def Ev.send (i : EngineId) (item : WorkItem) (r : Request) (ev : Ev) : Ev :=
  let x : Exchange := { request := r, secondTry := false, phase := .awaitingReply }
  ev.setDlc (ev.s.dlc.setEngine i (.busy item x))

/-- R84: an engine releases its bay and becomes IDLE. -/
def Ev.release (i : EngineId) (ev : Ev) : Ev :=
  { ev.setDlc (ev.s.dlc.setEngine i .idle) with engines := true }

/-- R158: the mode wait of the CHECKOUT entry of a bay is over. -/
def Ev.endModeWait (b : BayId) (ev : Ev) : Ev :=
  ev.setQueueAndDrivers
    { ev.s.lkc with queue := ev.s.lkc.queue.map fun e => if e.bay = b then { e with modeWait := false } else e }

/-- R82, R158: the end of a MODE item reported to the LKC. -/
def Ev.reportMode (b : BayId) (free : Bool) (ev : Ev) : Ev :=
  if free then ev.endModeWait b else ev

/-- R87: the detail of TABLET_MODE_UNSET: 1 for CART asked, 2 for FREE asked. -/
def askedDetail (free : Bool) : Nat :=
  if free then 2 else 1

/-- R87: a MODE item ends without an answer. -/
def Ev.modeUnanswered (b : BayId) (free : Bool) (ev : Ev) : Ev :=
  (ev.raiseNotice .tabletModeUnset b.num (askedDetail free)).reportMode b free

/-- R77, R86: a STATUS item ends without an answer: a miss, the third of which puts an ACTIVE bay in ASLEEP. -/
def Ev.statusUnanswered (b : BayId) (ev : Ev) : Ev :=
  let misses := min 3 ((ev.s.dlcBay b).misses + 1)
  let ev' := ev.updDlc b fun x => { x with misses := misses }
  if misses = 3 ∧ (ev.s.dlcBay b).dock = .active then ev'.setDock b .asleep else ev'

/-- R85: an IDENT item ends without an answer: the IDENT retry timer starts on a SEATED bay. -/
def Ev.identUnanswered (b : BayId) (ev : Ev) : Ev :=
  let now := ev.s.now
  if (ev.s.dlcBay b).dock = .seated then ev.updDlc b fun x => { x with identUntil := some (now + identRetry) } else ev

/-! ### Recording a transfer's end in the Package Store (R101, R102, R104) -/

/-- R101: a bay's package list replaced; the BSC is told when it becomes or stops being empty. -/
def Ev.setList (b : BayId) (l : List Nat) (ev : Ev) : Ev :=
  let old := (ev.s.pksBay b).list
  if old = l then ev
  else
    let ev' := (ev.updPks b fun x => { x with list := l }).needEval b
    if old.isEmpty = l.isEmpty then ev' else ev'.needFigures b

/-- R101: an id removed from a bay's list. -/
def Ev.unlist (id : Nat) (ev : Ev) (b : BayId) : Ev :=
  ev.setList b ((ev.s.pksBay b).list.filter fun x => x ≠ id)

/-- R93: the next settle order number given out. -/
def Ev.nextSettle (ev : Ev) : Ev :=
  { ev with s := { ev.s with pks := { ev.s.pks with nextSettle := ev.s.pks.nextSettle + 1 } } }

/-- R93: an entry enters a settled state and takes the next settle order number; its blocks are free from then
(DEDUCED, log entry 32). -/
def Ev.settlePackage (id : Nat) (st : PackageState) (ev : Ev) : Ev :=
  let number := ev.s.pks.nextSettle
  (ev.setTable (updatePackage ev.s.pks.table id fun p => { p with state := st, settle := number })).nextSettle

/-- R102: an entry with no target bay PENDING enters COMPLETE. -/
def Ev.completePackage (id : Nat) (ev : Ev) : Ev :=
  match findPackage ev.s.pks.table id with
  | none => ev
  | some p =>
    if p.state = .ready ∧ p.anyPending = false then (ev.settlePackage id .complete).raiseNotice .packageDone 0 id else ev

/-- R102: what a transfer result makes of a target bay. -/
def Target.after (r : TransferResult) (t : Target) : Target :=
  match r with
  | .delivered => { t with outcome := .delivered }
  | .hadIt => { t with outcome := .hadIt }
  | .refused => { t with outcome := .refused }
  | .endedByTablet n => { t with outcome := .endedByTablet n }
  | .failedAttempt => { attempts := t.attempts + 1, outcome := if 2 ≤ t.attempts + 1 then .failed else t.outcome }
  | .aborted _ => t

/-- R102: the result of a transfer recorded: the outcome, the list, and COMPLETE. -/
def Ev.recordResult (b : BayId) (id : Nat) (r : TransferResult) (ev : Ev) : Ev :=
  match findPackage ev.s.pks.table id with
  | none => ev
  | some p =>
    match p.targets.get b with
    | none => ev
    | some t =>
      let t' := t.after r
      let ev1 := ev.setTable
        (updatePackage ev.s.pks.table id fun p => { p with targets := p.targets.set b (some t') })
      let ev2 := if r = .failedAttempt ∧ t'.outcome = .failed then ev1.raiseNotice .deliveryFailed b.num id else ev1
      if p.state = .ready ∧ t'.outcome ≠ .pending then (ev2.unlist id b).completePackage id else ev2

/-- R117: the retry delay started by a failed attempt. -/
def Ev.startRetry (b : BayId) (r : TransferResult) (ev : Ev) : Ev :=
  let now := ev.s.now
  if r = .failedAttempt then ev.updPks b fun x => { x with retryUntil := some (now + retryDelay) } else ev

/-- R103: whether a transfer of a package is in flight on some bay. -/
def inFlight (s : State) (id : Nat) : Bool :=
  BayId.all.any fun b =>
    match (s.dlcBay b).transfer with
    | some t => decide (t.id = id)
    | none => false

/-- R104: a WITHDRAWING entry is freed once no transfer of it is in flight. -/
def Ev.freeWithdrawn (id : Nat) (ev : Ev) : Ev :=
  match findPackage ev.s.pks.table id with
  | some p =>
    if p.state = .withdrawing ∧ inFlight ev.s id = false then ev.setTable (freePackage ev.s.pks.table id) else ev
  | none => ev

/-- R116: the end of a transfer: the PKS records it, the record is removed, the LKC is told. -/
def Ev.endTransfer (b : BayId) (r : TransferResult) (ev : Ev) : Ev :=
  match (ev.s.dlcBay b).transfer with
  | none => ev
  | some t =>
    let ev1 := (ev.recordResult b t.id r).startRetry b r
    let ev2 := ev1.updDlc b fun x => { x with transfer := none, lastEnd := some { id := t.id, result := r } }
    { (ev2.freeWithdrawn t.id).needEval b with rework := true }

/-- R127: a PACKAGE item ends: the engine releases the bay and the PKS evaluates it. -/
def Ev.endPackageItem (i : EngineId) (b : BayId) (ev : Ev) : Ev :=
  (ev.release i).needEval b

/-! ### Transfers on an engine (R111 to R114, R119 to R126) -/

/-- R111, R126: a transfer of the first id on the bay's list started. -/
def Ev.startTransfer (i : EngineId) (item : WorkItem) (ev : Ev) : Ev :=
  match (ev.s.pksBay item.bay).list.head?.bind (findPackage ev.s.pks.table) with
  | none => ev.endPackageItem i item.bay
  | some p =>
    let t : Transfer :=
      { id := p.id, length := p.length, next := 0, resend := false, suspended := false, takeover := false }
    let ev1 := { ev.updDlc item.bay fun x => { x with transfer := some t } with rework := true }
    ev1.send i item (.pkgBegin p.id p.length p.check)

/-- R123: whether a waiting item calls for suspension of a transfer for a bay on an engine. -/
def givesWayTo (d : Dlc) (i : EngineId) (b : BayId) (x : WorkItem) : Bool :=
  decide (x.kind.cls < 2) && decide ((d.engine i.other).bay? ≠ some x.bay) &&
    (decide (d.engine i.other ≠ .idle) || decide (x.bay = b))

/-- R126: an engine goes on to the next transfer on its bay, or its item ends. -/
def Ev.continueOrEnd (i : EngineId) (item : WorkItem) (ev : Ev) : Ev :=
  if eligible ev.s item.bay = true ∧ (ev.s.dlc.queue.any (givesWayTo ev.s.dlc i item.bay)) = false then
    ev.startTransfer i item
  else ev.endPackageItem i item.bay

/-- R116, R126, R127: a transfer that an engine serves ends. -/
def Ev.finishTransfer (i : EngineId) (item : WorkItem) (r : TransferResult) (ev : Ev) : Ev :=
  (ev.endTransfer item.bay r).continueOrEnd i item

/-- R120: the cause for which a transfer at a boundary ends ABORTED. The lock state is that of the boundary: one that
has left LOCKED and QUEUED since the last boundary and is back in them ends nothing (DESIGN CHOICE, log entry 40). -/
def abortCause? (s : State) (b : BayId) (t : Transfer) : Option AbortCause :=
  if (findPackage s.pks.table t.id).any fun p => p.state = .withdrawing then some .withdrawn
  else if (s.lkcBay b).lock ≠ some .locked ∧ (s.lkcBay b).lock ≠ some .queued then some .lockState
  else if t.takeover then some .takeover
  else none

/-- R119: the request that follows a boundary: PKG_BLOCK at the next block index, or PKG_END. -/
def nextRequest (s : State) (t : Transfer) : Request :=
  if t.next < t.length then
    .pkgBlock t.next (storeBlock s.pks.store (((findPackage s.pks.table t.id).map Package.base).getD 0) t.next)
  else .pkgEnd t.id

/-- R83, R87: an engine starts an IDENT, STATUS or MODE item; a MODE item for a bay with no record ends at once
(DEDUCED, log entry 25). -/
def Ev.startExchange (i : EngineId) (item : WorkItem) (ev : Ev) : Ev :=
  match item.kind with
  | .ident => ev.send i item .ident
  | .status => ev.send i item .status
  | .modeCart =>
    if (ev.s.dlcBay item.bay).record.isSome then ev.send i item (.mode false)
    else (ev.modeUnanswered item.bay false).release i
  | .modeFree =>
    if (ev.s.dlcBay item.bay).record.isSome then ev.send i item (.mode true)
    else (ev.modeUnanswered item.bay true).release i
  | .package => ev

/-- R123: a transfer suspended for a waiting item, which the engine serves (DEDUCED, log entry 24). -/
def Ev.suspend (i : EngineId) (item waiting : WorkItem) (ev : Ev) : Ev :=
  let ev1 := ev.updDlc item.bay fun x =>
    { x with transfer := x.transfer.map fun t => { t with suspended := true } }
  let back : WorkItem := { bay := item.bay, kind := .package, placedAt := ev.s.now }
  let d := ev1.s.dlc
  let left := d.queue.filter fun x => !x.isOf waiting.bay waiting.kind
  ({ ev1.setDlc { d.setEngine i .idle with queue := putBack back left } with engines := true }).startExchange i waiting

/-- R119: the three tests of a block boundary. -/
def Ev.boundary (i : EngineId) (item : WorkItem) (ev : Ev) : Ev :=
  match (ev.s.dlcBay item.bay).transfer with
  | none => ev.endPackageItem i item.bay
  | some t =>
    match abortCause? ev.s item.bay t with
    | some cause => ev.finishTransfer i item (.aborted cause)
    | none =>
      match ev.s.dlc.queue.find? (givesWayTo ev.s.dlc i item.bay) with
      | some waiting => ev.suspend i item waiting
      | none => ev.send i item (nextRequest ev.s t)

/-- R111, R125: an engine takes a PACKAGE item: it resumes, ends NOT_STARTED, or starts a transfer. -/
def Ev.takePackage (i : EngineId) (item : WorkItem) (ev : Ev) : Ev :=
  match (ev.s.dlcBay item.bay).transfer with
  | some _ =>
    (ev.updDlc item.bay fun x =>
      { x with transfer := x.transfer.map fun t => { t with suspended := false } }).boundary i item
  | none => if eligible ev.s item.bay then ev.startTransfer i item else ev.endPackageItem i item.bay

/-! ### Taking items (R83) -/

/-- R83: an item taken from the queue by an engine. -/
def Ev.takeItem (i : EngineId) (item : WorkItem) (ev : Ev) : Ev :=
  let ev1 := ev.leaveQueue item.bay item.kind
  if item.kind = .package then ev1.takePackage i item else ev1.startExchange i item

/-- R83: an IDLE engine takes the first item in queue order whose bay the other engine does not hold. -/
def Ev.lookForItem (i : EngineId) (ev : Ev) : Ev :=
  if ev.s.dlc.engine i = .idle then
    match ev.s.dlc.queue.find? fun x => decide ((ev.s.dlc.engine i.other).bay? ≠ some x.bay) with
    | some item => ev.takeItem i item
    | none => ev
  else ev

/-- R83: the engines look, engine 1 first. -/
def Ev.runEngines (ev : Ev) : Ev :=
  (({ ev with engines := false }).lookForItem .e1).lookForItem .e2

/-! ### Ends of exchanges (R73, R112 to R114) -/

/-- The exchange an engine has with a bay in a phase. -/
def exchangeAt? (s : State) (b : BayId) (phase : ExchangePhase) : Option (EngineId × WorkItem × Exchange) :=
  match s.dlc.engineAt? b with
  | none => none
  | some i =>
    match s.dlc.engine i with
    | .idle => none
    | .busy item x => if x.phase = phase then some (i, item, x) else none

/-- R73: an exchange ends NO_ANSWER, and with it the item. -/
def Ev.noAnswer (i : EngineId) (item : WorkItem) (ev : Ev) : Ev :=
  match item.kind with
  | .ident => (ev.identUnanswered item.bay).release i
  | .status => (ev.statusUnanswered item.bay).release i
  | .modeCart => (ev.modeUnanswered item.bay false).release i
  | .modeFree => (ev.modeUnanswered item.bay true).release i
  | .package => ev.finishTransfer i item .failedAttempt

/-- R73: a timeout or a bad reply: the first try goes to the quiet wait, the second ends the exchange NO_ANSWER. -/
def Ev.tryFailed (b : BayId) (ev : Ev) : Ev :=
  match exchangeAt? ev.s b .awaitingReply with
  | none => ev
  | some (i, item, x) =>
    if x.secondTry then ev.noAnswer i item
    else ev.setDlc (ev.s.dlc.setEngine i (.busy item { x with phase := .quietWait }))

/-- R73: the line has been quiet for 1 ms: the same request is sent again. -/
def Ev.repeatRequest (b : BayId) (ev : Ev) : Ev :=
  match exchangeAt? ev.s b .quietWait with
  | none => ev
  | some (i, item, x) =>
    ev.setDlc (ev.s.dlc.setEngine i (.busy item { x with secondTry := true, phase := .awaitingReply }))

/-- R73: the line has not been quiet in time: the exchange ends NO_ANSWER. -/
def Ev.notQuiet (b : BayId) (ev : Ev) : Ev :=
  match exchangeAt? ev.s b .quietWait with
  | none => ev
  | some (i, item, _) => ev.noAnswer i item

/-- R163: the comparison of a record with the assignment, at identification (1) or at ASSIGN (2). -/
def Ev.compareTag (b : BayId) (detail : Nat) (ev : Ev) : Ev :=
  match (ev.s.lkcBay b).assignment, (ev.s.dlcBay b).record with
  | some tag, some r => if r.tag = tag then ev else ev.raiseNotice .wrongBay b.num detail
  | _, _ => ev

/-- R85: an IDENT completes on a SEATED bay. -/
def Ev.identified (b : BayId) (r : TabletRecord) (ev : Ev) : Ev :=
  if (ev.s.dlcBay b).dock = .seated then
    let ev1 := (ev.updDlc b fun x => { x with record := some r, misses := 0, identUntil := none }).setDock b .active
    let ev2 := (ev1.raiseNotice .seatedTablet b.num r.cls).compareTag b 1
    if (ev2.s.lkcBay b).lock = some .locked then ev2.request b .modeCart else ev2
  else ev

/-- R86: a STATUS exchange completes. -/
def Ev.statusTaken (b : BayId) (percent : Option Nat) (inhibit free : Bool) (ev : Ev) : Ev :=
  ((ev.writeStatus b percent inhibit free).answered b).modeHeld b free

/-- R87: a MODE exchange completes, the mode asked for and the mode held given. -/
def Ev.modeTaken (b : BayId) (asked held : Bool) (ev : Ev) : Ev :=
  let ev1 := ((ev.changeRecord b fun r => { r with free := held }).answered b).modeHeld b held
  if held = asked then ev1.reportMode b asked
  else (ev1.raiseNotice .tabletModeUnset b.num (askedDetail asked)).reportMode b asked

/-- R112: the reply to PKG_BEGIN. -/
def Ev.beginTaken (i : EngineId) (item : WorkItem) (r : BeginReply) (ev : Ev) : Ev :=
  match r with
  | .accept => ev.boundary i item
  | .hadIt => ev.finishTransfer i item .hadIt
  | .refuse => ev.finishTransfer i item .refused

/-- R113: a block is taken: the next index. -/
def Transfer.advance (t : Transfer) : Transfer :=
  { t with resend := false, next := t.next + 1 }

/-- R113: the reply to the PKG_BLOCK of an index. -/
def Ev.blockTaken (i : EngineId) (item : WorkItem) (index : Nat) (r : BlockReply) (ev : Ev) : Ev :=
  match (ev.s.dlcBay item.bay).transfer with
  | none => ev.endPackageItem i item.bay
  | some t =>
    match r with
    | .ok => (ev.updDlc item.bay fun x => { x with transfer := some t.advance }).boundary i item
    | .bad =>
      if t.resend then ev.finishTransfer i item .failedAttempt
      else
        (ev.updDlc item.bay fun x => { x with transfer := some { t with resend := true } }).send i item
          (nextRequest ev.s t)
    | .stop => ev.finishTransfer i item (.endedByTablet (t.length - index))
    | .lost => ev.finishTransfer i item .failedAttempt

/-- R114: the reply to PKG_END. -/
def Ev.endTaken (i : EngineId) (item : WorkItem) (done : Bool) (ev : Ev) : Ev :=
  ev.finishTransfer i item (if done then .delivered else .failedAttempt)

/-! ### Events from other blocks -/

/-- R124: a suspended transfer of a bay ends ABORTED. -/
def Ev.abortSuspended (b : BayId) (cause : AbortCause) (ev : Ev) : Ev :=
  match (ev.s.dlcBay b).transfer with
  | some t => if t.suspended then ((ev.leaveQueue b .package).endTransfer b (.aborted cause)).needEval b else ev
  | none => ev

/-- R121: the LKC sets the takeover mark on the transfer in flight on a bay. -/
def Ev.setTakeover (b : BayId) (ev : Ev) : Ev :=
  (ev.updDlc b fun x => { x with transfer := x.transfer.map fun t => { t with takeover := true } }).abortSuspended b
    .takeover

/-- R76, R84: an engine that serves an IDENT, STATUS or MODE item for a bay whose tablet leaves: it ends REMOVED. -/
def Ev.dropServed (b : BayId) (ev : Ev) : Ev :=
  match ev.s.dlc.engineAt? b with
  | none => ev
  | some i =>
    match ev.s.dlc.engine i with
    | .idle => ev
    | .busy item _ =>
      match item.kind with
      | .ident => ev.release i
      | .status => ev.release i
      | .modeCart => ev.release i
      | .modeFree => (ev.reportMode b true).release i
      | .package => (ev.endTransfer b (.aborted .removed)).endPackageItem i b

/-- R76, R81: as many deferred requests placed as items left the queue. -/
def Ev.placeDeferreds : Nat → Ev → Ev
  | 0, ev => ev
  | n + 1, ev => Ev.placeDeferreds n ev.placeDeferred

/-- R76, R122: the items and deferred requests of a bay whose tablet leaves are removed; a suspended transfer ends
ABORTED with cause REMOVED. -/
def Ev.dropItems (b : BayId) (ev : Ev) : Ev :=
  let d := ev.s.dlc
  let ev1 := ev.setDlc
    { d with
      queue := d.queue.filter fun x => decide (x.bay ≠ b)
      deferred := d.deferred.filter fun x => decide (x.bay ≠ b) }
  let ev2 := ev1.placeDeferreds (d.queue.filter fun x => decide (x.bay = b)).length
  ev2.endTransfer b (.aborted .removed)

end Sys2Proof.Machine
end

