-- ==== Sys2Proof/Machine/Locks.lean ====
section
/-! DEFINITION. Chapters 7 and 8: the lock states, the release queue, the drivers, the switch events and the ends of
releases. -/

namespace Sys2Proof.Machine

/-! ### Lock states (R132, R133) -/

/-- Whether a lock state lets a transfer go on (R120). -/
def LockState.passes : LockState → Bool
  | .locked => true | .queued => true
  | .prepare => false | .pulse => false | .hold => false | .opened => false | .cooldown => false
  | .lockFault => false | .unsecured => false

/-- R133: a bay's lock state set and handed on: to the DLC at LOCKED and out of LOCKED and QUEUED, to the BSC at and
out of LOCKED, to the PKS; the readiness is reworked (R136). -/
def Ev.setLock (b : BayId) (l : LockState) (ev : Ev) : Ev :=
  let old := (ev.s.lkcBay b).lock
  if old = some l then ev
  else
    let ev1 : Ev := { (ev.updLkc b fun x => { x with lock := some l }).needEval b with rework := true }
    let ev2 := if old = some .locked ∨ l = .locked then ev1.needFigures b else ev1
    let ev3 := if l = .locked ∧ (ev2.s.dlcBay b).record.isSome = true then ev2.request b .modeCart else ev2
    if l.passes then ev3 else ev3.abortSuspended b .lockState

/-- R132: a bay comes to rest: QUEUED when an entry for it is in the queue, else LOCKED. -/
def Ev.rest (b : BayId) (ev : Ev) : Ev :=
  ev.setLock b (if ev.s.lkc.hasEntry b then .queued else .locked)

/-- R148: a bay enters UNSECURED, with the notice's detail. -/
def Ev.unsecure (b : BayId) (detail : Nat) (ev : Ev) : Ev :=
  (ev.setLock b .unsecured).raiseNotice .unsecured b.num detail

/-! ### The release queue (R134 to R137) -/

/-- R136: what a queued entry waits for (DESIGN CHOICE, log entry 31). -/
def entryWait (s : State) (e : ReleaseEntry) : EntryWait :=
  if e.modeWait then .mode
  else if (s.dlcBay e.bay).transfer.isSome then .provision
  else if s.shu.lapp < s.lkc.power + 10 ∧ (s.lkcBay e.bay).lock ≠ some .cooldown then .power
  else .driver

/-- R136: whether an entry is ready. -/
def entryReady (s : State) (e : ReleaseEntry) : Bool :=
  !e.modeWait && (s.dlcBay e.bay).transfer.isNone && decide ((s.lkcBay e.bay).lock ≠ some .cooldown) &&
    decide (s.lkc.power + 10 ≤ s.shu.lapp)

/-- R135: the entry of a bay leaves the queue; the PKS evaluates the bay. -/
def Ev.removeEntry (b : BayId) (ev : Ev) : Ev :=
  (ev.setQueueAndDrivers
    { ev.s.lkc with queue := ev.s.lkc.queue.filter fun e => decide (e.bay ≠ b) }).needEval b

/-- R134: the time of the wait limit of an entry. -/
def waitLimit : Nat := 10000

/-! ### Ends of releases (R133, R164 to R167) -/

/-- R164: the outcome of a bay's release record. -/
def Ev.setOutcome (b : BayId) (o : ReleaseOutcome) (ev : Ev) : Ev :=
  ev.updLkc b fun x => { x with release := x.release.map fun r => { r with outcome := o } }

/-- R167: a CHECKOUT that ends with a tablet record present requests MODE_CART. -/
def Ev.restoreMode (b : BayId) (kind : ReleaseKind) (ev : Ev) : Ev :=
  if kind = .checkout ∧ (ev.s.dlcBay b).record.isSome = true then ev.request b .modeCart else ev

/-- R133, R164, R167: a release ends not opened, in a fault, or dropped. -/
def Ev.endRelease (b : BayId) (kind : ReleaseKind) (o : ReleaseOutcome) (ev : Ev) : Ev :=
  (ev.setOutcome b o).restoreMode b kind

/-- R164: the door opens under a release: OPENED, unless the record has gone on already (DEDUCED, log entry 26). -/
def Ev.noteOpened (b : BayId) (ev : Ev) : Ev :=
  ev.updLkc b fun x =>
    { x with release := x.release.map fun r => if r.outcome = .waiting then { r with outcome := .opened } else r }

/-- R140, R145, R148: the door opens under a release: RELEASED is raised. -/
def Ev.released (b : BayId) (kind : ReleaseKind) (ev : Ev) : Ev :=
  (ev.noteOpened b).raiseNotice .released b.num kind.code

/-- R165, R166: the door's close judged on a bay whose release record is OPENED. -/
def Ev.judgeClose (b : BayId) (ev : Ev) : Ev :=
  match (ev.s.lkcBay b).release with
  | none => ev
  | some r =>
    if r.outcome = .opened then
      match r.kind with
      | .checkout => ((ev.setOutcome b .notTaken).raiseNotice .notTaken b.num 0).restoreMode b .checkout
      | .returning => ev.setOutcome b (if (ev.s.dlcBay b).dock = .empty then .notReturned else .returned)
      | .service => ev.setOutcome b .closed
    else ev

/-- R165: presence lost on a bay whose CHECKOUT record is OPENED: TAKEN. -/
def Ev.noteTaken (b : BayId) (ev : Ev) : Ev :=
  ev.updLkc b fun x =>
    { x with release := x.release.map fun r =>
        if r.kind = .checkout ∧ r.outcome = .opened then { r with outcome := .taken } else r }

/-! ### Drivers (R138 to R145) -/

/-- R139: the PREPARE time in ms. -/
def prepareTime : Nat := 50

/-- R138, R139: a driver takes an entry: it leaves the queue and the bay enters PREPARE. -/
def Ev.takeEntry (i : DriverId) (e : ReleaseEntry) (ev : Ev) : Ev :=
  let l := ev.s.lkc
  let taken := { l with queue := l.queue.filter fun x => decide (x.bay ≠ e.bay) }.setDriver i
    (.assigned e (.prepare (ev.s.now + prepareTime)) false)
  ((ev.setQueueAndDrivers taken).setLock e.bay .prepare).needEval e.bay

/-- A driver freed (R149). -/
def Ev.freeDriver (i : DriverId) (ev : Ev) : Ev :=
  ev.setQueueAndDrivers (ev.s.lkc.setDriver i .free)

/-- R137: an entry in WAIT_POWER past its limit is removed: NO_POWER is raised and the release ends dropped; a QUEUED
bay returns to LOCKED. -/
def Ev.dropUnpowered (e : ReleaseEntry) (ev : Ev) : Ev :=
  let ev1 := ((ev.removeEntry e.bay).raiseNotice .noPower e.bay.num ev.s.shu.lapp).endRelease e.bay e.kind .dropped
  if (ev1.s.lkcBay e.bay).lock = some .queued then ev1.setLock e.bay .locked else ev1

/-- R137: the first entry in WAIT_POWER whose limit has fallen. -/
def unpoweredEntry? (s : State) : Option ReleaseEntry :=
  s.lkc.queue.find? fun e => e.limitFallen && decide (entryWait s e = .power)

/-- R160: the first CHECKOUT entry in WAIT_PROVISION whose limit has fallen and whose transfer is not yet marked. -/
def overdueEntry? (s : State) : Option ReleaseEntry :=
  s.lkc.queue.find? fun e =>
    e.limitFallen && decide (e.kind = .checkout) && decide (entryWait s e = .provision) &&
      match (s.dlcBay e.bay).transfer with
      | some t => !t.takeover
      | none => false

/-- R138: the first entry in queue order that is ready. -/
def readyEntry? (s : State) : Option ReleaseEntry :=
  s.lkc.queue.find? (entryReady s)

/-- R138: the driver that takes first, if one is free. -/
def freeDriver? (l : Lkc) : Option DriverId :=
  if l.driver1 = .free then some .d1 else if l.driver2 = .free then some .d2 else none

/-- R136 to R138, R160: one act on the queued entries after a change of their inputs: a removal at the wait limit, a
takeover mark, or a take. The change it makes has the entries looked at again. -/
def Ev.reworkEntries (ev : Ev) : Ev :=
  let ev := { ev with rework := false }
  match unpoweredEntry? ev.s with
  | some e => ev.dropUnpowered e
  | none =>
    match overdueEntry? ev.s with
    | some e => { ev.setTakeover e.bay with rework := true }
    | none =>
      match freeDriver? ev.s.lkc, readyEntry? ev.s with
      | some i, some e => ev.takeEntry i e
      | _, _ => ev

/-- The driver of a bay, with its entry, phase and opened mark. -/
def driverAt? (s : State) (b : BayId) : Option (DriverId × ReleaseEntry × DriverPhase × Bool) :=
  match s.lkc.driverOf? b with
  | none => none
  | some i =>
    match s.lkc.driver i with
    | .free => none
    | .assigned e phase opened => some (i, e, phase, opened)

/-- R140: retraction seen, with its retract time: the last retract time and the jam count, and LATCH_SLOW above 70 %
of the pulse. -/
def Ev.sawRetraction (b : BayId) (time pulse : Nat) (ev : Ev) : Ev :=
  let ev1 := ev.updLkc b fun x => { x with lastRetract := some time, jams := 0 }
  if pulse * 7 < time * 10 then ev1.raiseNotice .latchSlow b.num time else ev1

/-- R139, R140: PREPARE ends: PULSE begins, and a bolt that already reads retracted is seen at once. -/
def Ev.startPulse (i : DriverId) (e : ReleaseEntry) (ev : Ev) : Ev :=
  let now := ev.s.now
  let seen := (ev.s.lkcBay e.bay).boltRetracted
  let ev1 := (ev.setQueueAndDrivers
    (ev.s.lkc.setDriver i (.assigned e (.pulse now (now + e.pulse) seen) false))).setLock e.bay .pulse
  if seen then ev1.sawRetraction e.bay 0 e.pulse else ev1

/-- R137, R142: the entry of a jammed first pulse: the retry flag, and the pulse length doubled and capped. The time
made is kept, so that a wait limit that fell while the entry was on a driver has fallen. -/
def ReleaseEntry.afterJam (now : Nat) (e : ReleaseEntry) : ReleaseEntry :=
  { e with
    retry := true
    pulse := min 1000 (2 * e.pulse)
    limitFallen := e.limitFallen || decide (e.made + waitLimit ≤ now) }

/-- R142: the COOLDOWN time in ms. -/
def cooldownTime : Nat := 1000

/-- R142, R144: a jam. -/
def Ev.jam (i : DriverId) (e : ReleaseEntry) (ev : Ev) : Ev :=
  let jams := min 2 ((ev.s.lkcBay e.bay).jams + 1)
  let now := ev.s.now
  let l := ev.s.lkc.setDriver i .free
  let ev1 := (ev.updLkc e.bay fun x => { x with jams := jams }).raiseNotice .jammed e.bay.num jams
  if jams = 1 then
    ((ev1.setQueueAndDrivers { l with queue := e.afterJam now :: l.queue, bays := ev1.s.lkc.bays }).updLkc e.bay fun x =>
      { x with cooldownUntil := some (now + cooldownTime) }).setLock e.bay .cooldown
  else
    (((ev1.setQueueAndDrivers { l with bays := ev1.s.lkc.bays }).raiseNotice .lockFault e.bay.num 0).setLock e.bay
      .lockFault).endRelease e.bay e.kind .fault

/-- R141, R144: the pulse length has run: OPEN, HOLD or a jam. A bay taken out of LOCK_FAULT, which carries a jam count
of 2 until retraction is seen, jams without retraction although its door stands open (DEDUCED, log entry 26). -/
def Ev.endPulse (i : DriverId) (e : ReleaseEntry) (seen opened : Bool) (ev : Ev) : Ev :=
  let x := ev.s.lkcBay e.bay
  if x.doorOpen = true ∧ (seen = true ∨ x.jams < 2) then ((ev.freeDriver i).setLock e.bay .opened).noteOpened e.bay
  else if seen then
    (ev.setQueueAndDrivers
      (ev.s.lkc.setDriver i (.assigned e (.hold (ev.s.now + e.holdWindow)) opened))).setLock e.bay .hold
  else ev.jam i e

/-- R131: the extend wait in ms. -/
def extendWait : Nat := 500

/-- R131: an extend wait begins on a bay whose bolt reads retracted. -/
def Ev.startExtendWait (b : BayId) (ev : Ev) : Ev :=
  let now := ev.s.now
  ev.updLkc b fun x => { x with extendUntil := if x.boltRetracted then some (now + extendWait) else none }

/-- R145: the hold window expires with the door closed. -/
def Ev.endHold (i : DriverId) (e : ReleaseEntry) (opened : Bool) (ev : Ev) : Ev :=
  let ev1 := ((ev.freeDriver i).startExtendWait e.bay).setLock e.bay .locked
  if opened then ev1.judgeClose e.bay
  else (ev1.raiseNotice .notOpened e.bay.num e.kind.code).endRelease e.bay e.kind .notOpened

/-! ### COOLDOWN (R142, R143, R159) -/

/-- R142: COOLDOWN no longer runs. -/
def Ev.stopCooldown (b : BayId) (ev : Ev) : Ev :=
  ev.updLkc b fun x => { x with cooldownUntil := none }

/-- R143: a bay leaves COOLDOWN with its door closed: it is set from its bolt reading. -/
def Ev.leaveCooldown (b : BayId) (ev : Ev) : Ev :=
  let ev1 := ev.stopCooldown b
  if (ev1.s.lkcBay b).boltRetracted then ev1.unsecure b 1 else ev1.rest b

/-! ### Switch events (R130, R131, R142, R144 to R148) -/

/-- R130: the debounce time of a door switch in ms. -/
def doorDebounce : Nat := 20

/-- R130: the debounce time of a bolt switch in ms. -/
def boltDebounce : Nat := 2

/-- R130: one ms of the switches of a bay, the door's true for open and the bolt's true for retracted: the runs of the
levels that are not their readings. -/
def LkcBay.readSwitches (door bolt : Bool) (x : LkcBay) : LkcBay :=
  { x with doorRun := heldFor (door != x.doorOpen) x.doorRun, boltRun := heldFor (bolt != x.boltRetracted) x.boltRun }

/-- R130: a door reading recorded, and the debounce of the switch begun anew; an extend wait ends at once when the door
opens (R131). -/
def Ev.readDoor (b : BayId) (isOpen : Bool) (ev : Ev) : Ev :=
  ev.updLkc b fun x =>
    { x with doorOpen := isOpen, doorRun := 0, extendUntil := if isOpen then none else x.extendUntil }

/-- R130: a bolt reading recorded, and the debounce of the switch begun anew; an extend wait ends at a bolt extended
event (R131). -/
def Ev.readBolt (b : BayId) (retracted : Bool) (ev : Ev) : Ev :=
  ev.updLkc b fun x =>
    { x with boltRetracted := retracted, boltRun := 0, extendUntil := if retracted then x.extendUntil else none }

/-- R142, R144, R147: the entry of a bay that waits in the queue is removed, and its release ends dropped. -/
def Ev.dropEntry (b : BayId) (ev : Ev) : Ev :=
  match ev.s.lkc.entry? b with
  | some e => (ev.removeEntry b).endRelease b e.kind .dropped
  | none => ev

/-- R142, R148: the entry of a bay that waits in the queue is removed as the door opens under it: RELEASED is raised,
and the release ends opened. -/
def Ev.openEntry (b : BayId) (ev : Ev) : Ev :=
  match ev.s.lkc.entry? b with
  | some e => (ev.removeEntry b).released b e.kind
  | none => ev

/-- R147: a forced opening: the bay enters OPEN, FORCED is raised with the lock state before it, and a waiting entry
is dropped. -/
def Ev.forceOpen (b : BayId) (before : LockState) (ev : Ev) : Ev :=
  ((ev.setLock b .opened).raiseNotice .forced b.num before.code).dropEntry b

/-- R140: a switch change seen in PULSE, its debounce time given: retraction, when it has not been seen. The retract
time runs to the start of the steady reading (DEDUCED, log entry 28). -/
def Ev.seeInPulse (i : DriverId) (e : ReleaseEntry) (energized untilTime : Nat) (seen opened : Bool) (debounce : Nat)
    (ev : Ev) : Ev :=
  let ev1 := ev.setQueueAndDrivers (ev.s.lkc.setDriver i (.assigned e (.pulse energized untilTime true) opened))
  if seen then ev1 else ev1.sawRetraction e.bay (ev.s.now - debounce - energized) e.pulse

/-- R147: a door opened event in PREPARE: forced; the driver is freed before it is energized. A bay taken out of
LOCK_FAULT enters OPEN as any other, its jam count left as it is (DESIGN CHOICE, log entry 41). -/
def Ev.openInPrepare (b : BayId) (ev : Ev) : Ev :=
  match driverAt? ev.s b with
  | some (i, e, _, _) => ((ev.freeDriver i).forceOpen b .prepare).endRelease b e.kind .dropped
  | none => ev.forceOpen b .prepare

/-- R140: a door opened event in PULSE: it counts as retraction, marks the release as opened and raises RELEASED; a
later one is recorded. -/
def Ev.openInPulse (b : BayId) (ev : Ev) : Ev :=
  match driverAt? ev.s b with
  | some (i, e, .pulse energized untilTime seen, opened) =>
    let ev1 := ev.seeInPulse i e energized untilTime seen true doorDebounce
    if opened then ev1 else ev1.released b e.kind
  | _ => ev

/-- R145: a door opened event in HOLD: OPEN, the driver freed, RELEASED. -/
def Ev.openInHold (b : BayId) (ev : Ev) : Ev :=
  match driverAt? ev.s b with
  | some (i, e, _, _) => ((ev.freeDriver i).setLock b .opened).released b e.kind
  | none => ev

/-- R142: a door opened event in COOLDOWN: OPEN; released when the bolt reads retracted, else forced. -/
def Ev.openInCooldown (b : BayId) (ev : Ev) : Ev :=
  let ev1 := (ev.stopCooldown b).setLock b .opened
  if (ev1.s.lkcBay b).boltRetracted then (ev1.updLkc b fun x => { x with jams := 0 }).openEntry b
  else (ev1.raiseNotice .forced b.num LockState.cooldown.code).dropEntry b

/-- R140, R142, R144 to R148: the debounced door of a bay opens. -/
def Ev.doorOpens (b : BayId) (ev : Ev) : Ev :=
  let ev1 := ev.readDoor b true
  match (ev1.s.lkcBay b).lock with
  | none => ev1
  | some .locked => ev1.forceOpen b .locked
  | some .queued => ev1.forceOpen b .queued
  | some .prepare => ev1.openInPrepare b
  | some .pulse => ev1.openInPulse b
  | some .hold => ev1.openInHold b
  | some .opened => ev1
  | some .cooldown => ev1.openInCooldown b
  | some .lockFault => (ev1.raiseNotice .forced b.num LockState.lockFault.code).dropEntry b
  | some .unsecured => (ev1.setLock b .opened).openEntry b

/-- R146, R165: the debounced door of a bay closes: in OPEN the close is judged, and the bay rests or waits for its
bolt; in every other state the reading is recorded. -/
def Ev.doorCloses (b : BayId) (ev : Ev) : Ev :=
  let ev1 := ev.readDoor b false
  match (ev1.s.lkcBay b).lock with
  | some .opened =>
    let ev2 := ev1.judgeClose b
    if (ev2.s.lkcBay b).boltRetracted then ev2.startExtendWait b else ev2.rest b
  | none | some .locked | some .queued | some .prepare | some .pulse | some .hold | some .cooldown
  | some .lockFault | some .unsecured => ev1

/-- R140, R148: the debounced bolt of a bay reads retracted. -/
def Ev.boltRetracts (b : BayId) (ev : Ev) : Ev :=
  let ev1 := ev.readBolt b true
  let x := ev1.s.lkcBay b
  match x.lock with
  | some .locked => if x.doorOpen = false ∧ x.extendUntil = none then ev1.unsecure b 1 else ev1
  | some .queued => if x.doorOpen = false ∧ x.extendUntil = none then ev1.unsecure b 1 else ev1
  | some .pulse =>
    match driverAt? ev1.s b with
    | some (i, e, .pulse energized untilTime seen, opened) => ev1.seeInPulse i e energized untilTime seen opened boltDebounce
    | _ => ev1
  | none | some .prepare | some .hold | some .opened | some .cooldown | some .lockFault | some .unsecured => ev1

/-- R131, R146, R148: the debounced bolt of a bay reads extended: an extend wait ends, and a bay in its extend wait in
OPEN, or in UNSECURED, with its door closed comes to rest. -/
def Ev.boltExtends (b : BayId) (ev : Ev) : Ev :=
  let waiting := (ev.s.lkcBay b).extendUntil.isSome
  let ev1 := ev.readBolt b false
  let x := ev1.s.lkcBay b
  match x.lock with
  | some .opened => if x.doorOpen = false ∧ waiting = true then ev1.rest b else ev1
  | some .unsecured => if x.doorOpen = false then ev1.rest b else ev1
  | none | some .locked | some .queued | some .prepare | some .pulse | some .hold | some .cooldown
  | some .lockFault => ev1

/-- R131, R146: an extend wait runs out: a bay at rest or in OPEN whose bolt reads retracted with the door closed
enters UNSECURED (DEDUCED, log entry 27). -/
def Ev.extendWaitOver (b : BayId) (ev : Ev) : Ev :=
  let ev1 := ev.updLkc b fun x => { x with extendUntil := none }
  let x := ev1.s.lkcBay b
  if x.boltRetracted = true ∧ x.doorOpen = false ∧
      (x.lock = some .locked ∨ x.lock = some .queued ∨ x.lock = some .opened) then ev1.unsecure b 2
  else ev1

/-- R159: presence lost on a bay whose CHECKOUT entry waits in the queue: the entry is removed and its release ends
dropped; a QUEUED bay returns to LOCKED and a bay in COOLDOWN leaves it. -/
def Ev.dropCheckout (b : BayId) (ev : Ev) : Ev :=
  match ev.s.lkc.entry? b with
  | none => ev
  | some e =>
    if e.kind = .checkout then
      let ev1 := (ev.removeEntry b).endRelease b .checkout .dropped
      match (ev1.s.lkcBay b).lock with
      | some .queued => ev1.setLock b .locked
      | some .cooldown => ev1.leaveCooldown b
      | none | some .locked | some .prepare | some .pulse | some .hold | some .opened | some .lockFault
      | some .unsecured => ev1
    else ev

/-! ### Admission (R154 to R157) -/

/-- R156: the counted percent of a bay. -/
def countedPercent (d : DlcBay) : Nat :=
  match d.record with
  | some r => if d.dock = .active then r.percent.getD 0 else 0
  | none => 0

/-- R155, Table 8-2: the tests that every kind passes first. -/
def commonRefusal (s : State) (b : BayId) (kind : ReleaseKind) : Option ResultCode :=
  let lock := (s.lkcBay b).lock
  if s.lkc.hasEntry b = true ∨ lock = some .prepare ∨ lock = some .pulse ∨ lock = some .hold then some .busy
  else if lock = some .lockFault ∧ kind ≠ .service then some .lockFault
  else if lock = some .opened then some .busy
  else if 8 ≤ s.lkc.queue.length then some .busy
  else none

/-- R156, Table 8-3: whether the record's tag meets the bay's assignment. -/
def tagFits (assignment : Option Tag) (record : Option TabletRecord) : Bool :=
  match assignment with
  | none => true
  | some tag => record.any fun r => r.tag = tag

/-- R156, Table 8-3: the tests of a CHECKOUT. -/
def checkoutRefusal (s : State) (b : BayId) : Option ResultCode :=
  let d := s.dlcBay b
  let x := s.lkcBay b
  if d.dock = .empty then some .emptyBay
  else if d.dock = .seated then some .notReady
  else if x.quarantine then some .quarantined
  else if !tagFits x.assignment d.record then some .wrongTablet
  else if countedPercent d < s.settings.checkoutMin then some .lowCharge
  else none

/-- R156, Table 8-3: the tests of a release kind. -/
def kindRefusal (s : State) (b : BayId) : ReleaseKind → Option ResultCode
  | .checkout => checkoutRefusal s b
  | .returning => if (s.dlcBay b).dock = .empty then none else some .occupied
  | .service => none

/-- R155, R156: the result code of the first admission test that fails. -/
def admissionRefusal (s : State) (b : BayId) (kind : ReleaseKind) : Option ResultCode :=
  (commonRefusal s b kind).or (kindRefusal s b kind)

/-- R134: the pulse length of a new entry. -/
def pulseLength (s : State) (b : BayId) (kind : ReleaseKind) : Nat :=
  if kind = .service ∧ (s.lkcBay b).lock = some .lockFault then 1000 else (s.settings.pulseCount + 1) * 10

/-- R134, R157: the entry of an admitted release. -/
def newEntry (s : State) (b : BayId) (kind : ReleaseKind) (holdWindow : Nat) : ReleaseEntry where
  bay := b
  kind := kind
  holdWindow := holdWindow
  pulse := pulseLength s b kind
  retry := false
  made := s.now
  modeWait := decide (kind = .checkout)
  limitFallen := false

/-- R157: a release admitted. -/
def Ev.admitRelease (b : BayId) (kind : ReleaseKind) (holdWindow : Nat) (ev : Ev) : Ev :=
  let l := ev.s.lkc
  let ev1 := (ev.setQueueAndDrivers { l with queue := l.queue ++ [newEntry ev.s b kind holdWindow] }).needEval b
  let ev2 := if (ev1.s.lkcBay b).lock = some .locked then ev1.setLock b .queued else ev1
  let ev3 := ev2.updLkc b fun x => { x with release := some { kind := kind, outcome := .waiting } }
  match kind with
  | .checkout => ev3.request b .modeFree
  | .returning => ev3
  | .service => ev3.setTakeover b

/-- R153: the lock state of a bay from its switches, at leaving STARTING. -/
def initialLock (doorOpen boltRetracted : Bool) : LockState :=
  if doorOpen then .opened else if boltRetracted then .unsecured else .locked

end Sys2Proof.Machine
end

