-- ==== Sys2Proof/Machine/Share.lean ====
section
/-! DEFINITION. Chapter 2: the division of a pool by floors and weights, the share computation, the applied limit,
the overdraw trim and the own claim. -/

namespace Sys2Proof.Machine

/-! ### Floors first, then weights (R29, R30, R61) -/

/-- What a member of a division brings: its demand, floor and weight. -/
structure Member where
  /-- Demand. -/
  d : Nat
  /-- Floor. -/
  f : Nat
  /-- Weight. -/
  w : Nat
  deriving DecidableEq, Repr

/-- R29: the stage-1 grants from a pool: the floors, scaled down when they do not fit. -/
def stageOne (pool : Nat) (ms : List Member) : List Nat :=
  let fsum := (ms.map Member.f).sum
  if fsum ≤ pool then ms.map Member.f else ms.map fun m => m.f * pool / fsum

/-- R30: the sum of the weights over the active set, whose members' grants are below their demands. -/
def activeWeight (l : List (Member × Nat)) : Nat :=
  (l.map fun x => if x.2 < x.1.d then x.1.w else 0).sum

/-- R30: what a pass adds to a member's grant. -/
def passGain (rest wsum : Nat) (x : Member × Nat) : Nat :=
  if x.2 < x.1.d then min (x.1.d - x.2) (rest * x.1.w / wsum) else 0

/-- R30: up to so many passes over the members and their grants, from a rest to be spread. A pass that grants nothing
ends them; so does an empty active set, which grants nothing. -/
def passes : Nat → Nat → List (Member × Nat) → List (Member × Nat)
  | 0, _, l => l
  | n + 1, rest, l =>
    let wsum := activeWeight l
    let total := (l.map (passGain rest wsum)).sum
    if total = 0 then l
    else passes n (rest - total) (l.map fun x => (x.1, x.2 + passGain rest wsum x))

/-- R29, R30: the grants of the members from a pool. -/
def divide (pool : Nat) (ms : List Member) : List Nat :=
  let g := stageOne pool ms
  (passes 4 (pool - g.sum) (ms.zip g)).map Prod.snd

/-! ### The share computation (R25 to R33) -/

/-- A peer entry as a member of the view (R28). -/
def Peer.member (p : Peer) : Member where
  d := p.d
  f := p.f
  w := p.w

/-- The station itself as a member of its view (R28). -/
def Shu.member (u : Shu) : Member where
  d := u.d
  f := u.f
  w := u.w

/-- The LIVE entries. -/
def livePeers (s : State) : List Peer :=
  s.shu.peers.filter fun p => p.state = .live

/-- R25: the smaller of C_sel and the panel limit. -/
def ownCeiling (s : State) : Nat :=
  match s.shu.panelLimit with
  | none => s.settings.cSel
  | some l => min s.settings.cSel l

/-- R25: the effective ceiling of a computation; in ISOLATED and CLASHED the peers play no part. -/
def effectiveCeiling (s : State) : Nat :=
  match s.cbi.station with
  | .isolated => ownCeiling s
  | .clashed => ownCeiling s
  | .starting | .listen | .active | .halted => (livePeers s).foldl (fun c p => min c p.cSel) (ownCeiling s)

/-- R26: whether this station sets an isolated share aside for an id from 1 to N_cfg. -/
def reservesFor (s : State) (id : Nat) : Bool :=
  decide (id ≠ s.cbi.ownId.toNat) && !((livePeers s).any fun p => p.id.toNat = id)

/-- R26: the reservation, Riso given. -/
def reservation (s : State) (riso : Nat) : Nat :=
  (((List.range s.settings.nCfg).map (· + 1)).filter (reservesFor s)).length * riso +
    ((s.shu.peers.filter fun p =>
        decide (p.state = .stale) && decide (s.settings.nCfg < p.id.toNat)).map Peer.a).sum

/-- R31: the shares stored in the peer entries: the LIVE ones in the order of the view, 0 for the STALE ones. -/
def storeShares : List Peer → List Nat → List Peer
  | [], _ => []
  | p :: ps, gs =>
    if p.state = .live then { p with g := gs.headD 0 } :: storeShares ps gs.tail
    else { p with g := 0 } :: storeShares ps gs

/-- R28 to R31: the full computation. -/
def fullComputation (s : State) : Shu :=
  let cEff := effectiveCeiling s
  let rsv := reservation s (cEff / s.settings.nCfg)
  let members := s.shu.member :: (livePeers s).map Peer.member
  let grants := divide (cEff - rsv) members
  { s.shu with
    cEff := cEff
    rsv := rsv
    share := grants.headD 0
    floorGrant := (stageOne (cEff - rsv) members).headD 0
    peers := storeShares s.shu.peers grants.tail }

/-- R32: the isolated computation. -/
def isolatedComputation (s : State) : Shu :=
  let cEff := ownCeiling s
  let riso := cEff / s.settings.nCfg
  { s.shu with
    cEff := cEff
    rsv := (s.settings.nCfg - 1) * riso
    share := min s.shu.d riso
    floorGrant := min s.shu.f (min s.shu.d riso)
    peers := s.shu.peers.map fun p => { p with g := 0 } }

/-- R33: the single-station computation. -/
def singleComputation (s : State) : Shu :=
  let cEff := effectiveCeiling s
  { s.shu with
    cEff := cEff
    rsv := 0
    share := min s.shu.d cEff
    floorGrant := min s.shu.f (min s.shu.d cEff)
    peers := s.shu.peers.map fun p => { p with g := 0 } }

/-- R27: the share computation of the station bus state and N_cfg. -/
def shareComputation (s : State) : Shu :=
  match s.cbi.station with
  | .isolated => isolatedComputation s
  | .clashed => isolatedComputation s
  | .starting | .listen | .active | .halted => if s.settings.nCfg = 1 then singleComputation s else fullComputation s

/-! ### The applied limit (R34 to R36, R38) -/

/-- The Share Unit with the applied limit and the pending raise following the share S of the latest computation: a
lowering at once, a raise made pending or its target moved (R34 to R36). In LISTEN no raise becomes pending (R35). -/
def followShare (station : StationState) (raiseHold now : Nat) (u : Shu) : Shu :=
  if u.share < u.lapp then { u with lapp := u.share, raise := none }
  else if u.share = u.lapp then { u with raise := none }
  else if station = .listen then u
  else
    match u.raise with
    | some r => { u with raise := some { r with target := u.share } }
    | none => { u with raise := some { target := u.share, origin := .holdUntil (now + raiseHold) } }

/-- R38: a new state of the Share Unit, with a change of Lapp handed to the split, to the readiness test and to the
claim triggers. -/
def Ev.changeShu (u : Shu) (ev : Ev) : Ev :=
  let moved := decide (u.lapp ≠ ev.s.shu.lapp)
  { ev with
    s := { ev.s with shu := u }
    split := ev.split || moved
    rework := ev.rework || moved
    claimTest := ev.claimTest || moved || decide (u.trimmed ≠ ev.s.shu.trimmed)
    freshRaise := ev.freshRaise || (ev.s.shu.raise.isNone && u.raise.isSome) }

/-- R27, R34 to R36: a share computation, and what follows from its share. In STARTING and HALTED none runs (R39). -/
def Ev.computeShare (ev : Ev) : Ev :=
  let ev := { ev with share := false }
  if ev.s.runs then
    ev.changeShu (followShare ev.s.cbi.station ev.s.settings.raiseHold ev.s.now (shareComputation ev.s))
  else ev

/-- R40: the heard load H. -/
def heardLoad (s : State) : Nat :=
  s.shu.lapp + ((livePeers s).map Peer.a).sum + s.shu.rsv

/-- R40, R41: the overdraw check and the trim. -/
def Ev.checkOverdraw (ev : Ev) : Ev :=
  let ev := { ev with overdraw := false }
  let u := ev.s.shu
  if decide (ev.s.cbi.station = .active) && decide (2 ≤ ev.s.settings.nCfg) && decide (u.cEff < heardLoad ev.s) then
    let lapp := min u.lapp u.floorGrant
    let restarted := ev.s.now + ev.s.settings.raiseHold
    let raise :=
      match u.raise with
      | some r => some { r with origin := .holdUntil restarted }
      | none => if lapp < u.share then some { target := u.share, origin := .holdUntil restarted } else none
    let ev' := ev.changeShu { u with lapp := lapp, trimmed := true, raise := raise }
    { ev' with freshRaise := raise.isSome }.raiseNotice .trimmed 0 lapp
  else ev

/-! ### The own claim (R16 to R18, R35) -/

/-- R16: the sums of the bay figures with the lock floor: D, F and W. -/
def composeFigures (s : State) : Nat × Nat × Nat :=
  let bays := s.bsc.bays.toList
  let floor := s.lkc.floorPower
  let w := min 255 ((bays.map fun b => if 0 < b.request then b.weight else 0).sum)
  (min 212 ((bays.map BscBay.demand).sum + floor), (bays.map BscBay.floor).sum + floor, if w = 0 then 1 else w)

/-- R16: D, F and W composed afresh; when one differs a computation runs and the claim triggers are tested. -/
def Ev.compose (ev : Ev) : Ev :=
  let ev := { ev with report := false }
  let (d, f, w) := composeFigures ev.s
  let u := ev.s.shu
  if u.d = d ∧ u.f = f ∧ u.w = w then ev
  else { ev with s := { ev.s with shu := { u with d := d, f := f, w := w } }, share := true, claimTest := true }

/-- R17: the figures of a CLAIM placed now. -/
def claimFigures (s : State) : ClaimFigures where
  isolated := s.cbi.station = .isolated
  d := s.shu.d
  f := s.shu.f
  w := s.shu.w
  a := s.shu.lapp
  cSel := s.settings.cSel
  nCfg := s.settings.nCfg
  trimmed := s.shu.trimmed

/-- R18: two powers differ by 4 W or more. -/
def farApart (a b : Nat) : Bool :=
  decide (a + 4 ≤ b) || decide (b + 4 ≤ a)

/-- R18: whether the current figures meet a trigger against the last placed ones. -/
def claimTrigger (s : State) : Bool :=
  match s.shu.lastPlaced with
  | none => true
  | some l =>
    farApart l.d s.shu.d || decide (l.f ≠ s.shu.f) || decide (l.w ≠ s.shu.w) || farApart l.a s.shu.lapp ||
      decide (l.trimmed ≠ s.shu.trimmed)

/-- R18: whether the station bus state is one in which CLAIMs are placed. -/
def StationState.claims : StationState → Bool
  | .active => true | .isolated => true
  | .starting => false | .listen => false | .clashed => false | .halted => false

/-- R17, R18: a CLAIM placed when a trigger is met, one for the event. A CLAIM that takes a free slot is an event of
R178. -/
def Ev.claims (ev : Ev) : Ev :=
  let due := ev.s.cbi.station.claims && (ev.claim || (ev.claimTest && claimTrigger ev.s))
  let ev := { ev with claim := false, claimTest := false }
  if due then
    let c := claimFigures ev.s
    let s := { ev.s with shu := { ev.s.shu with lastPlaced := some c } }
    { ev with s := placeClaimFrame c.bytes s, handover := ev.handover || !claimWaits ev.s }
  else ev

/-- R35: whether an own CLAIM is on the line. -/
def claimOnLine (s : State) : Bool :=
  match s.cbi.onLine with
  | some f => f.kind = .claim
  | none => false

/-- R35: the hold origin as at this event, the CLAIM of the event being placed (DEDUCED, log entry 21). -/
def holdOrigin (s : State) : RaiseOrigin :=
  if s.cbi.station = .active ∧ 2 ≤ s.settings.nCfg ∧ claimWaits s then .queuedClaim
  else if s.cbi.station = .active ∧ 2 ≤ s.settings.nCfg ∧ claimOnLine s then .claimOnLine
  else .holdUntil (s.now + s.settings.raiseHold)

/-- R35, R41: the hold origin of a raise that this event started or restarted. -/
def Ev.fixOrigin (ev : Ev) : Ev :=
  let fresh := ev.freshRaise
  let ev := { ev with freshRaise := false }
  match ev.s.shu.raise with
  | some r =>
    if fresh then
      { ev with s := { ev.s with shu := { ev.s.shu with raise := some { r with origin := holdOrigin ev.s } } } }
    else ev
  | none => ev

end Sys2Proof.Machine
end

