-- ==== Sys2Proof/Machine/Supply.lean ====
section
/-! DEFINITION. Chapter 3: the profile table, derating, the bay figures, the intra-shelf split and the setpoints. -/

namespace Sys2Proof.Machine

/-! ### The profile table (R45, R46) -/

/-- R45, Table 3-1: the entries of a partition. -/
def partitionSize (classes : Nat) : Nat :=
  64 / classes

/-- R46: the partition: the class of the record when it is below K, else 0. -/
def partitionOf (classes : Nat) : Option TabletRecord → Nat
  | some r => if r.cls < classes then r.cls else 0
  | none => 0

/-- R46: the band of a bay within a partition. -/
def bandOf (size : Nat) (dock : DockState) (record : Option TabletRecord) : Nat :=
  if dock = .asleep then 0
  else
    match record with
    | none => 0
    | some r =>
      match r.percent with
      | none => 0
      | some p => p * size / 101

/-- R46: the index of a bay's entry. -/
def entryIndex (classes : Nat) (d : DlcBay) : Nat :=
  partitionOf classes d.record * partitionSize classes + bandOf (partitionSize classes) d.dock d.record

/-- R46, R47: the entry a bay charges by: its fixed current at 5 V tagged BULK, or its profile entry. -/
def chargeEntry (settings : Settings) (fixed : Option Nat) (d : DlcBay) : ProfileEntry :=
  match fixed with
  | some current => { current := current, nineVolt := false, phase := .bulk }
  | none => settings.profile.getD (entryIndex settings.classes d) { current := 0, nineVolt := false, phase := .hold }

/-! ### Derating (R53) -/

/-- R53: the quarters of a current that a derate level leaves; none at CUT. -/
def DerateLevel.quarters : DerateLevel → Nat
  | .l0 => 4 | .l1 => 3 | .l2 => 2 | .l3 => 1 | .cut => 0

/-- R53: the derated current of an entry current, 0 at CUT. -/
def derated (level : DerateLevel) (current : Nat) : Nat :=
  down50 (current * level.quarters / 4)

/-! ### Bay figures (R54 to R58) -/

/-- The millivolts of a voltage choice (R55). -/
def millivolts (nine : Bool) : Nat :=
  if nine then 9000 else 5000

/-- R54: whether a bay is charging, its entry given. -/
def charging (level : DerateLevel) (supply : SupplyState) (entry : ProfileEntry) (record : Option TabletRecord) : Bool :=
  decide (supply = .run) && decide (level ≠ .cut) && decide (entry.phase ≠ .hold) &&
    match record with
    | some r => !r.inhibit
    | none => true

/-- R55: the request of a charge current and voltage: rounded up, capped at 24 W. -/
def requestOf (current : Nat) (nine : Bool) : Nat :=
  min 24 ((current * millivolts nine + 999999) / 1000000)

/-- R56: the keep-alive floor. -/
def keepAlive (listed : Bool) (dock : DockState) (lock : Option LockState) : Nat :=
  if listed = true ∧ dock = .active ∧ lock = some .locked then 6 else 0

/-- R56: the wake floor. -/
def wakeFloor : DockState → Nat
  | .asleep => 2 | .seated => 2
  | .empty => 0 | .active => 0

/-- R56: the bay floor; 0 at CUT and in FAULT. -/
def floorOf (level : DerateLevel) (supply : SupplyState) (listed : Bool) (dock : DockState) (lock : Option LockState) :
    Nat :=
  if level = .cut ∨ supply = .fault then 0 else max (keepAlive listed dock lock) (wakeFloor dock)

/-- R54: the charge current of a bay: the derated current of its entry while it is charging. -/
def chargeCurrentOf (s : State) (b : BayId) : Nat :=
  let entry := chargeEntry s.settings (s.bscBay b).fixed (s.dlcBay b)
  if charging s.bsc.derate (s.bscBay b).supply entry (s.dlcBay b).record then derated s.bsc.derate entry.current else 0

/-- R58: the figures of a bay computed from the state of its neighbours. -/
def computedBay (s : State) (b : BayId) : BscBay :=
  let x := s.bscBay b
  let d := s.dlcBay b
  let entry := chargeEntry s.settings x.fixed d
  let current := chargeCurrentOf s b
  let nine := decide (0 < current) && entry.nineVolt
  let request := requestOf current nine
  let floor := floorOf s.bsc.derate x.supply (!(s.pksBay b).list.isEmpty) d.dock (s.lkcBay b).lock
  { x with
    phase := if x.supply = .idle then none else some entry.phase
    chargeCurrent := current
    chargeNine := nine
    request := request
    floor := floor
    demand := max request floor }

/-- R58: one bay computed: a change of demand, floor or request is reported to the SHU, a change of floor or demand
runs the split, and its setpoint is computed again. -/
def Ev.computeBay (b : BayId) (ev : Ev) : Ev :=
  let old := ev.s.bscBay b
  let new := computedBay ev.s b
  let moved := decide (new.floor ≠ old.floor) || decide (new.demand ≠ old.demand)
  { ev with
    s := ev.s.setBscBay b new
    report := ev.report || moved || decide (new.request ≠ old.request)
    split := ev.split || moved
    setpoints := b :: ev.setpoints }

/-- R58: the figures of the bays named are computed, in ascending order. -/
def Ev.computeFigures (ev : Ev) : Ev :=
  (BayId.all.filter fun b => ev.figures.contains b).foldl (fun e b => e.computeBay b) { ev with figures := [] }

/-! ### Setpoints (R63, R64) -/

/-- R63: the floor current. -/
def floorCurrent (floor : Nat) : Nat :=
  down50 (floor * 1000 / 5)

/-- R63: the setpoint of a bay from its figures and grant. -/
def setpointOf (x : BscBay) : Setpoint :=
  let nine := decide (0 < x.chargeCurrent) && x.chargeNine
  { current :=
      if x.supply = .run then
        min (down50 (x.grant * 1000000 / millivolts nine)) (max x.chargeCurrent (floorCurrent x.floor))
      else 0
    nineVolt := nine }

/-- R64: the power of a setpoint, in mA times V. -/
def Setpoint.power (p : Setpoint) : Nat :=
  p.current * if p.nineVolt then 9 else 5

/-- R64, R66: the stage driven to a setpoint; the moment at which the output goes off is noted. -/
def BscBay.drive (now : Nat) (p : Setpoint) (x : BscBay) : BscBay :=
  { x with
    applied := p
    rise := none
    offSince := if 0 < x.applied.current ∧ p.current = 0 then some now else x.offSince }

/-- R64: the shed wait in ms. -/
def shedWait : Nat := 50

/-- R64: the end of the shed wait of a rise: it runs on from where a pending rise started it. -/
def shedEnd (now : Nat) : Option Rise → Nat
  | some r => r.shedUntil
  | none => now + shedWait

/-- R64: a computed setpoint taken: applied at once when its power does not rise, else a pending rise. -/
def BscBay.takeSetpoint (now : Nat) (x : BscBay) : BscBay :=
  let p := setpointOf x
  let y := { x with computed := p }
  if p.power ≤ x.applied.power then y.drive now p
  else
    { y with rise := some { target := p, shedUntil := shedEnd now x.rise } }

/-- R58, R63: the setpoint of a bay computed. -/
def Ev.computeSetpoint (ev : Ev) (b : BayId) : Ev :=
  ev.updBsc b (BscBay.takeSetpoint ev.s.now)

/-- R58: the setpoints of the bays whose figures were computed, where no split runs. -/
def Ev.computeSetpoints (ev : Ev) : Ev :=
  (BayId.all.filter fun b => ev.setpoints.contains b).foldl Ev.computeSetpoint { ev with setpoints := [] }

/-! ### The intra-shelf split (R60 to R62) -/

/-- R60: the bay budget. -/
def bayBudget (s : State) : Nat :=
  s.shu.lapp - s.lkc.power

/-- A bay as a member of the split (R61). -/
def BscBay.member (x : BscBay) : Member where
  d := x.demand
  f := x.floor
  w := x.weight

/-- R61: the grants of the eight bays, in ascending order of bay number. -/
def splitGrants (s : State) : List Nat :=
  divide (bayBudget s) (s.bsc.bays.toList.map BscBay.member)

/-- R61: the bays with the grants of a split. -/
def grantBays (grants : List Nat) (bays : PerBay BscBay) : PerBay BscBay :=
  PerBay.ofFn fun b => { bays.get b with grant := grants.getD b.index 0 }

/-- R61, R62, R110: the split; every setpoint is computed afresh, and a bay whose grant changed is evaluated. -/
def Ev.runSplit (ev : Ev) : Ev :=
  let grants := splitGrants ev.s
  let changed := BayId.all.filter fun b => decide ((ev.s.bscBay b).grant ≠ grants.getD b.index 0)
  BayId.all.foldl Ev.computeSetpoint
    { ev with
      s := { ev.s with bsc := { ev.s.bsc with bays := grantBays grants ev.s.bsc.bays } }
      split := false
      setpoints := []
      evals := ev.evals ++ changed }

/-- R58, R62: the split when it is due, else the setpoints of the bays computed. -/
def Ev.splitOrSetpoints (ev : Ev) : Ev :=
  if ev.split then ev.runSplit else ev.computeSetpoints

/-- R64: the shed wait of a bay ends: its pending rise is applied. -/
def BscBay.endShedWait (now : Nat) (x : BscBay) : BscBay :=
  match x.rise with
  | some r => x.drive now r.target
  | none => x

/-! ### Supply states (R65, R67, R68) -/

/-- R67: no condition found: the conditions are judged from the entry into RUN on. -/
def Meter.cleared (m : Meter) : Meter :=
  { m with overFor := 0, surge := false, underFor := 0 }

/-- R65, R75: a bay enters RUN as its tablet is seated. -/
def Ev.supplyOn (b : BayId) (ev : Ev) : Ev :=
  (ev.updBsc b fun x => { x with supply := .run, meter := x.meter.cleared }).needFigures b

/-- R48, R59, R65, R76: a bay enters IDLE as its tablet leaves: fixed mode is cleared, the weight returns to its
default, the figures and the grant go to 0 and the output goes off at once. -/
def Ev.supplyOff (b : BayId) (ev : Ev) : Ev :=
  let x := ev.s.bscBay b
  let now := ev.s.now
  let weight := ev.s.settings.defaultWeight
  let y : BscBay :=
    { x with
      supply := .idle
      fixed := none
      weight := weight
      phase := none
      chargeCurrent := 0
      chargeNine := false
      request := 0
      floor := 0
      demand := 0
      grant := 0
      computed := Setpoint.off }
  let ev' := (ev.updBsc b fun _ => y.drive now Setpoint.off).needFigures b
  { ev' with
    report := true
    split := ev'.split || decide (x.floor ≠ 0) || decide (x.demand ≠ 0) || decide (x.weight ≠ weight) }

/-- R67: a bay enters FAULT: the output goes off at once and SUPPLY_FAULT is raised. -/
def Ev.supplyFault (b : BayId) (c : SupplyCondition) (ev : Ev) : Ev :=
  let now := ev.s.now
  ((ev.updBsc b fun x => ({ x with supply := .fault }).drive now Setpoint.off).raiseNotice
    .supplyFault b.num (conditionCode c)).needFigures b

/-! ### Measurements (R66, R67) -/

/-- R67: the current in mA above the applied setpoint current that is too much. -/
def currentMargin : Nat := 300

/-- R67: the current in mA that is too much at any instant. -/
def currentCeiling : Nat := 3000

/-- R67: the ms for which a condition must hold without a break. -/
def faultTime : Nat := 200

/-- R67: whether a voltage in mV is below 80 % of the voltage of the setpoint, while its current is above 0. -/
def Setpoint.undervolted (p : Setpoint) (voltage : Nat) : Bool :=
  decide (0 < p.current) && decide (voltage * 10 < millivolts p.nineVolt * 8)

/-- R66: the power in uW of a ms whose current in mA and voltage in mV are read: none while the output is off (DESIGN
CHOICE, log entry 7). -/
def Setpoint.output (p : Setpoint) (current voltage : Nat) : Nat :=
  if p.current = 0 then 0 else current * voltage

/-- R66, R67: one ms of a bay's output read: the readings, the powers of the last second, and the conditions against
the applied setpoint in force, which are judged in RUN alone. -/
def BscBay.measure (current voltage : Nat) (x : BscBay) : BscBay :=
  let m : Meter :=
    { current := current
      voltage := voltage
      powers := (x.applied.output current voltage :: x.meter.powers).take 1000
      overFor := heldFor (decide (x.applied.current + currentMargin < current)) x.meter.overFor
      surge := x.meter.surge || decide (currentCeiling < current)
      underFor := heldFor (x.applied.undervolted voltage) x.meter.underFor }
  { x with meter := if x.supply = .run then m else m.cleared }

/-- R67: whether a condition has been found by the measurements. -/
def Meter.found (m : Meter) : SupplyCondition → Bool
  | .overSetpoint => decide (faultTime ≤ m.overFor)
  | .overCurrent => m.surge
  | .underVoltage => decide (faultTime ≤ m.underFor)

/-- R67: whether a condition is judged on a bay: it is in RUN, and an undervoltage needs a setpoint above 0. -/
def faultJudged (x : BscBay) (c : SupplyCondition) : Bool :=
  decide (x.supply = .run) && (decide (c ≠ .underVoltage) || decide (0 < x.applied.current))

/-- R66: the mean power of the last second in whole watts, rounded down. -/
def Meter.meanPower (m : Meter) : Nat :=
  m.powers.sum / 1000 / 1000000

/-- R66: the measured power in watts: it falls to 0 within one second of the output going off, and is 0 after reset
(DESIGN CHOICE, log entry 7). -/
def BscBay.measuredPower (now : Nat) (x : BscBay) : Nat :=
  let lately :=
    match x.offSince with
    | some t => decide (now < t + 1000)
    | none => false
  if 0 < x.applied.current ∨ lately = true then x.meter.meanPower else 0

/-! ### Temperature (R49 to R52) -/

/-- R49: whether a reading is good. -/
def goodReading (t : Int) : Bool :=
  decide (-20 ≤ t) && decide (t ≤ 120)

/-- R49: a sensor after a reading: a faulty one takes none further. -/
def Sensor.take (t : Int) (x : Sensor) : Sensor :=
  if x.faulty then x
  else if goodReading t then { x with last := some t }
  else { x with faulty := true }

/-- R50: the controlling temperature, from the sensors after the sample and their readings; none when both are
faulty. -/
def controlling (s1 s2 : Sensor) (r1 r2 : Int) : Option Int :=
  if s1.faulty then (if s2.faulty then none else some r2)
  else if s2.faulty then some r1
  else some (max r1 r2)

/-- R51, Table 3-3: the level one step higher; 3 and CUT stay. -/
def DerateLevel.hotter : DerateLevel → DerateLevel
  | .l0 => .l1 | .l1 => .l2 | .l2 => .l3 | .l3 => .l3 | .cut => .cut

/-- R51, Table 3-3: the level one step lower; 0 stays and CUT gives 3. -/
def DerateLevel.cooler : DerateLevel → DerateLevel
  | .l0 => .l0 | .l1 => .l0 | .l2 => .l1 | .l3 => .l2 | .cut => .l3

/-- R50, R51: the counts and the level after a sample with a controlling temperature. -/
def Bsc.sampleAt (settings : Settings) (t : Int) (x : Bsc) : Bsc :=
  if settings.tCut ≤ t then { x with hot := 0, cool := 0, derate := .cut }
  else if settings.tHi ≤ t then
    if x.hot + 1 < 8 then { x with hot := x.hot + 1, cool := 0 }
    else { x with hot := 0, cool := 0, derate := x.derate.hotter }
  else if t ≤ settings.tLo then
    if x.cool + 1 < 40 then { x with cool := x.cool + 1, hot := 0 }
    else { x with cool := 0, hot := 0, derate := x.derate.cooler }
  else { x with hot := 0, cool := 0 }

/-- R52: the level after a sample that leaves both sensors faulty: it moves at the sample that marks the second. -/
def Bsc.bothFaulty (marked : Bool) (x : Bsc) : Bsc :=
  if marked then { x with hot := 0, cool := 0, derate := .l2 } else x

/-- R49 to R52: a sample of both sensors. -/
def Bsc.sample (settings : Settings) (r1 r2 : Int) (x : Bsc) : Bsc :=
  let s1 := x.sensor1.take r1
  let s2 := x.sensor2.take r2
  let y := { x with sensor1 := s1, sensor2 := s2 }
  match controlling s1 s2 r1 r2 with
  | some t => y.sampleAt settings t
  | none => y.bothFaulty (!(x.sensor1.faulty && x.sensor2.faulty))

/-- R186: a temperature as a notice detail: signed, in two's complement, in the two bytes of the field (DEDUCED, log
entry 12). -/
def temperatureDetail (t : Int) : Nat :=
  (t % 65536).toNat

/-- R49: SENSOR_FAULT for a sensor that a sample marks faulty. -/
def Ev.noteSensor (number : Nat) (before after : Sensor) (ev : Ev) : Ev :=
  if after.faulty && !before.faulty then ev.raiseNotice .sensorFault 0 number else ev

/-- R51: a change of the derate level: DERATE, THERMAL_CUT on entering CUT, and the figures of every bay. -/
def Ev.noteDerate (before after : DerateLevel) (t : Option Int) (ev : Ev) : Ev :=
  if before = after then ev
  else
    let ev1 := { ev.raiseNotice .derate 0 after.code with figures := ev.figures ++ BayId.all }
    if after = .cut then ev1.raiseNotice .thermalCut 0 (temperatureDetail (t.getD 0)) else ev1

/-- R49 to R52: a sample and what it raises. -/
def Ev.sample (r1 r2 : Int) (ev : Ev) : Ev :=
  let x := ev.s.bsc
  let y := x.sample ev.s.settings r1 r2
  let ev1 := { ev with s := { ev.s with bsc := y } }
  ((ev1.noteSensor 1 x.sensor1 y.sensor1).noteSensor 2 x.sensor2 y.sensor2).noteDerate x.derate y.derate
    (controlling y.sensor1 y.sensor2 r1 r2)

end Sys2Proof.Machine
end

