-- ==== Sys2Proof/Machine/Settle.lean ====
section
/-! DEFINITION. What an event brings about beyond its own rule: figures, shares, releases, the split, evaluations and
the engines, until nothing is left to be done, then the claim and the notices (DESIGN CHOICE, log entry 13). The
station bus state changes and the taking of a frame. -/

namespace Sys2Proof.Machine

/-! ### Working an event out -/

/-- Figures, shares or releases are still to be worked out. -/
def Ev.restless (ev : Ev) : Bool :=
  !ev.figures.isEmpty || ev.report || ev.share || ev.overdraw || ev.rework

/-- One round of figures (R58), D, F and W (R16), the share computation (R27), the overdraw check (R40) and one act on
the queued releases (R138). -/
def Ev.figureRound (ev : Ev) : Ev :=
  let ev1 := if ev.figures.isEmpty then ev else ev.computeFigures
  let ev2 := if ev1.report then ev1.compose else ev1
  let ev3 := if ev2.share then ev2.computeShare else ev2
  let ev4 := if ev3.overdraw then ev3.checkOverdraw else ev3
  if ev4.rework then ev4.reworkEntries else ev4

/-- Rounds until figures, shares and releases stand. -/
def Ev.figureRounds : Nat → Ev → Ev
  | 0, ev => ev
  | n + 1, ev => if ev.restless then Ev.figureRounds n ev.figureRound else ev

/-- Something is still to be worked out. -/
def Ev.busy (ev : Ev) : Bool :=
  ev.restless || ev.split || !ev.setpoints.isEmpty || !ev.evals.isEmpty || ev.engines

/-- One round: figures and releases, the split (R62), the evaluations (R110) and the engines (R83). -/
def Ev.settleRound (ev : Ev) : Ev :=
  let ev1 := ev.figureRounds 64
  let ev2 := if ev1.split || !ev1.setpoints.isEmpty then ev1.splitOrSetpoints else ev1
  let ev3 := if ev2.evals.isEmpty then ev2 else ev2.evaluateBays
  if ev3.engines then ev3.runEngines else ev3

/-- Rounds until nothing is left to be worked out. -/
def Ev.settleRounds : Nat → Ev → Ev
  | 0, ev => ev
  | n + 1, ev => if ev.busy then Ev.settleRounds n ev.settleRound else ev

/-- An event worked out. -/
def Ev.settle (ev : Ev) : Ev :=
  ev.settleRounds 64

/-- The claim of the event (R18), the hold origin of a raise it started (R35), and its notices (R175, R178). -/
def Ev.emit (ev : Ev) : Ev :=
  ev.claims.fixOrigin.notices

/-- The state an event leaves. -/
def Ev.finish (ev : Ev) : State :=
  ev.settle.emit.s

/-! ### Station bus states (R13 to R15, R44) -/

/-- R44: a change of station bus state: a pending raise is cancelled, a computation runs, a CLAIM is placed in ACTIVE
and ISOLATED; STARTED is raised on leaving LISTEN (R179). -/
def Ev.changeStation (new : StationState) (ev : Ev) : Ev :=
  let ev1 := (ev.setCbi { ev.s.cbi with station := new, listenUntil := none }).setShu { ev.s.shu with raise := none }
  let ev2 := { ev1 with share := true, claim := ev.claim || new.claims, handover := true }
  if ev.s.cbi.station = .listen then ev2.raiseNotice .started 0 ev.s.sul.cause.code else ev2

/-- R21, R44: every peer entry turns STALE. -/
def stalePeers (peers : List Peer) : List Peer :=
  peers.map fun p => { p with state := .stale }

/-- R14, R44: the station enters ISOLATED, with the detail of the notice: 1 for the isolation timer, 2 for a stuck
line. -/
def Ev.enterIsolated (detail : Nat) (ev : Ev) : Ev :=
  let ev1 := ev.changeStation .isolated
  (ev1.setShu { ev1.s.shu with peers := stalePeers ev1.s.shu.peers }).raiseNotice .isolated 0 detail

/-- R12, R15: a clash event: the station enters CLASHED from LISTEN, ACTIVE or ISOLATED; ID_CLASH is raised, again at
each further one. -/
def Ev.clash (ev : Ev) : Ev :=
  match ev.s.cbi.station with
  | .starting => ev
  | .halted => ev
  | .clashed => ev.raiseNotice .idClash 0 ev.s.cbi.ownId.toNat
  | .listen | .active | .isolated =>
    let ev1 := ev.changeStation .clashed
    let ev2 := ev1.setShu { ev1.s.shu with refresh := .stopped }
    let ev3 := ev2.setCbi
      { ev2.s.cbi with
        queue := ev2.s.cbi.queue.filter fun f => decide (f.kind ≠ .claim)
        contending := none
        isolationUntil := none }
    ev3.raiseNotice .idClash 0 ev.s.cbi.ownId.toNat

/-- R14: the isolation timer begins its full duration. -/
def Ev.restartIsolation (ev : Ev) : Ev :=
  ev.setCbi { ev.s.cbi with isolationUntil := some (ev.s.now + 4 * ev.s.settings.refresh) }

/-- R14: a valid frame from another station: the isolation timer restarts, and an ISOLATED station returns to ACTIVE
(DEDUCED, log entry 23). -/
def Ev.validFrom (sender : StationId) (ev : Ev) : Ev :=
  match ev.s.cbi.station with
  | .listen => ev.restartIsolation
  | .active => ev.restartIsolation
  | .isolated => (ev.restartIsolation.changeStation .active).raiseNotice .rejoined 0 sender.toNat
  | .clashed => ev
  | .starting => ev
  | .halted => ev

/-- R8: a valid frame of a sender, and what the part does with it; nothing arrives in STARTING and HALTED. -/
def onFrame (sender : StationId) (body : Ev → Ev) (s : State) : State :=
  if s.runs then (body ((Ev.start s).validFrom sender)).finish else s

/-! ### Taking a command (R10, R170, R171) -/

/-- R10: whether a command whose answer takes so many frames is taken: one slot more is free. -/
def slotsFor (frames : Nat) (s : State) : Bool :=
  decide (frames + 1 ≤ freeSlots s)

/-- R171: a REPLY to a command, with a bay or package id and a result code. -/
def Ev.reply (kind id : Byte) (code : ResultCode) (ev : Ev) : Ev :=
  { ev with s := placeFrame .reply [kind, id, byteOf code.code] false ev.s }

/-- R170, R171: the answer BAD_VALUE to a payload of the wrong length: its first byte stands for the id, and a free
value where it has none (DESIGN CHOICE, log entry 8) (DEDUCED, log entry 19). -/
def Ev.replyBadLength (kind : Byte) (payload : List Byte) (ev : Ev) : Ev :=
  match payload with
  | b :: _ => ev.reply kind b .badValue
  | [] =>
    let ev' := ev.reply kind (Config.absentId ev.s.free) .badValue
    { ev' with s := { ev'.s with free := ev'.s.free + 1 } }

/-- R10, R170: a command answered by one REPLY: ignored where fewer than two slots are free, but for the frame it is
(DEDUCED, log entry 14). -/
def onCommand (body : Ev → Ev) (s : State) : State :=
  onFrame 0 (fun ev => if slotsFor 1 s then body ev else ev) s

/-- A command about a bay: another number is answered BAD_BAY. -/
def Ev.forBay (kind bay : Byte) (body : BayId → Ev → Ev) (ev : Ev) : Ev :=
  match bayOf bay with
  | none => ev.reply kind bay .badBay
  | some b => body b ev

/-- An event at the bays or of a timer: it comes about while the blocks run (DEDUCED, log entry 16). -/
def onEvent (body : Ev → Ev) (s : State) : State :=
  if s.runs then (body (Ev.start s)).finish else s

end Sys2Proof.Machine
end

