-- ==== Sys2Proof/Machine/Startup.lean ====
section
/-! DEFINITION. Chapter 10: reset, the configuration image and its checks, the settings and the handover. -/

namespace Sys2Proof.Machine

/-! ### Reset (R180) -/

/-- R180, R13: the part reset for a cause: every block at its values after reset, in STARTING. The commands that wait,
the clock and the running number of the free values are the model's own and go on (DESIGN CHOICE, log entry 2). -/
def resetWith (cause : ResetCause) (s : State) : State :=
  { State.reset with
    pending := s.pending
    now := s.now
    free := s.free
    sul := { State.reset.sul with cause := cause } }

/-! ### Reading and judging the image (R181) -/

/-- The byte at an offset of a list of bytes; 0 past its end. -/
def byteAt (bytes : List Byte) (offset : Nat) : Byte :=
  bytes.getD offset 0

/-- R186: the two-byte number at an offset. -/
def wordFrom (bytes : List Byte) (offset : Nat) : Nat :=
  wordAt (byteAt bytes offset) (byteAt bytes (offset + 1))

/-- R181, Table 10-2: the judgement of what an answering EEPROM gives from address 0 up to the point at which it stops
answering. A stop within the marker or the length is a stop during the read (DEDUCED, log entry 15). -/
def judgeImage (bytes : List Byte) : ImageCheck :=
  if bytes.length < 2 then .faultRead
  else if byteAt bytes 0 ≠ 0x5A ∨ byteAt bytes 1 ≠ 0xC3 then .noMarker
  else if bytes.length < 4 then .faultRead
  else
    let length := wordFrom bytes 2
    if length < 32 ∨ 2048 < length then .faultLength
    else if bytes.length < length then .faultRead
    else if crc16Bytes (bytes.take (length - 2)) ≠ (bytes.drop (length - 2)).take 2 then .faultCrc
    else .good

/-! ### Applying the items (R182, Tables 10-3 and 11-9) -/

/-- The segments, in directory order (Table 11-8). -/
inductive Segment where
  | station | ceiling | profile | bay | lock | notice
  deriving DecidableEq, Repr

/-- The segments in directory order. -/
def Segment.all : List Segment :=
  [.station, .ceiling, .profile, .bay, .lock, .notice]

/-- The place of a segment in the directory. -/
def Segment.index : Segment → Nat
  | .station => 0 | .ceiling => 1 | .profile => 2 | .bay => 3 | .lock => 4 | .notice => 5

/-- Table 11-9: the signed two-byte number of a temperature value. -/
def signedValue (v : Nat) : Int :=
  if v < 32768 then v else (v : Int) - 65536

/-- Table 10-3: K is the largest of 1, 2, 4 and 8 not above the value, 0 being taken as 1. -/
def classCountOf (v : Nat) : Nat :=
  if 8 ≤ v then 8 else if 4 ≤ v then 4 else if 2 ≤ v then 2 else 1

/-- Table 10-3: the phase of a phase code, HOLD above 3. -/
def phaseOf : Nat → Phase
  | 0 => .wake
  | 1 => .bulk
  | 2 => .taper
  | _ => .hold

/-- Section 11.4: the profile entry of an item's value: the current in units of 20 mA, the voltage code in bits 3 to 0
and the phase code in bits 7 to 4 of the high-order byte. -/
def profileEntryOf (v : Nat) : ProfileEntry where
  current := down50 (min 2700 (v % 256 * 20))
  nineVolt := decide (1 ≤ v / 256 % 16)
  phase := phaseOf (v / 256 / 16)

/-- Table 11-9: a STATION item. -/
def stationItem (code v : Nat) (x : Settings) : Settings :=
  match code with
  | 0x01 => { x with nCfg := clamp 1 15 v }
  | 0x02 => { x with refresh := clamp 200 2000 v }
  | 0x03 => { x with raiseHold := clamp 100 1000 v }
  | 0x04 => { x with sourceItem := decide (1 ≤ v) }
  | 0x05 => { x with ceilingIndex := min 7 v }
  | _ => x

/-- Table 11-9: a CEILING item. -/
def ceilingItem (code v : Nat) (x : Settings) : Settings :=
  if 0x10 ≤ code ∧ code ≤ 0x17 then { x with ceilings := x.ceilings.set (code - 0x10) (clamp 100 2400 v) } else x

/-- Table 11-9: a PROFILE item. -/
def profileItem (code v : Nat) (x : Settings) : Settings :=
  if code = 0x20 then { x with classes := classCountOf v }
  else if 0x40 ≤ code ∧ code ≤ 0x7F then { x with profile := x.profile.set (code - 0x40) (profileEntryOf v) }
  else x

/-- Table 11-9: a BAY item. -/
def bayItem (code v : Nat) (x : Settings) : Settings :=
  match code with
  | 0x30 => { x with defaultWeight := clamp 1 15 v }
  | 0x31 => { x with checkoutMin := min 100 v }
  | 0x32 => { x with provisionMin := min 100 v }
  | 0x33 => { x with tHi := clampInt (-19) 120 (signedValue v) }
  | 0x34 => { x with tLo := clampInt (-20) 119 (signedValue v) }
  | 0x35 => { x with tCut := clampInt (-20) 120 (signedValue v) }
  | _ => x

/-- Table 11-9: a LOCK item. -/
def lockItem (code v : Nat) (x : Settings) : Settings :=
  match code with
  | 0x38 => { x with pulseCount := min 99 v }
  | 0x39 => { x with holdWindow := clamp 2 20 v }
  | _ => x

/-- Table 11-9: a NOTICE item: a kind code and a level; a code that names no kind is skipped. -/
def noticeItem (code v : Nat) (x : Settings) : Settings :=
  if code = 0x50 ∧ 1 ≤ v % 256 ∧ v % 256 ≤ 29 then
    { x with levels := x.levels.set (v % 256 - 1) (min 7 (v / 256)) }
  else x

/-- R182: an item of a segment; a code the segment does not define is skipped. -/
def applyItem : Segment → Nat → Nat → Settings → Settings
  | .station => stationItem
  | .ceiling => ceilingItem
  | .profile => profileItem
  | .bay => bayItem
  | .lock => lockItem
  | .notice => noticeItem

/-- R182: the items of a segment's bytes: three bytes each, one or two left over ignored. -/
def applyItems (segment : Segment) : List Byte → Settings → Settings
  | code :: lo :: hi :: rest, x => applyItems segment rest (applyItem segment code.toNat (wordAt lo hi) x)
  | _, x => x

/-- R182: a segment of an image: skipped, or read from its start offset upward. -/
def applySegment (image : List Byte) (x : Settings) (segment : Segment) : Settings :=
  let start := wordFrom image (4 + 4 * segment.index)
  let stop := wordFrom image (6 + 4 * segment.index)
  if stop ≤ start ∨ start < 28 ∨ wordFrom image 2 - 2 < stop then x
  else applyItems segment ((image.drop start).take (stop - start)) x

/-- R182: the working set of a GOOD image: the defaults, then the segments in directory order. -/
def applyImage (image : List Byte) : Settings :=
  Segment.all.foldl (applySegment image) Settings.default

/-! ### Settling and installing (R183 to R185) -/

/-- R183: T_lo is set below T_hi. -/
def settleThresholds (x : Settings) : Settings :=
  { x with tLo := if x.tLo < x.tHi then x.tLo else x.tHi - 1 }

/-- R183: C_sel is the entry of the ceiling list at the CSEL strap or at the ceiling index item. -/
def settleCeiling (csel : BitVec 3) (x : Settings) : Settings :=
  { x with cSel := x.ceilings.getD (if x.sourceItem then x.ceilingIndex else csel.toNat) 300 }

/-- R183: the two matters that depend on several items. -/
def settleSettings (csel : BitVec 3) (x : Settings) : Settings :=
  settleCeiling csel (settleThresholds x)

/-- Table 10-2: the notice of an image check result. -/
def imageNotice : ImageCheck → Option (NoticeKind × Nat)
  | .notRead => none
  | .absent => some (.configDefaults, 1)
  | .noMarker => some (.configDefaults, 2)
  | .faultCrc => some (.configFault, 1)
  | .faultRead => some (.configFault, 2)
  | .faultLength => some (.configFault, 3)
  | .good => none

/-- R182, R183: the working set of an image check result. -/
def workingSet (check : ImageCheck) (image : List Byte) (csel : BitVec 3) : Settings :=
  settleSettings csel (if check = .good then applyImage image else Settings.default)

/-- R184: the settings installed in the blocks: C_eff is taken as C_sel, the urgency weights as their default. -/
def installSettings (x : Settings) (s : State) : State :=
  { s with
    settings := x
    shu := { s.shu with cEff := x.cSel }
    bsc := { s.bsc with bays := PerBay.ofFn fun b => { s.bsc.bays.get b with weight := x.defaultWeight } } }

/-- R153: the lock bays with the switch readings taken and every lock state set from them. -/
def lockFromSwitches (doors bolts : Byte) (bays : PerBay LkcBay) : PerBay LkcBay :=
  PerBay.ofFn fun b =>
    { bays.get b with
      doorOpen := bayIn doors b
      boltRetracted := bayIn bolts b
      lock := some (initialLock (bayIn doors b) (bayIn bolts b)) }

/-- R153: UNSECURED for each bay found closed with its bolt retracted. -/
def noteUnsecured (doors bolts : Byte) (ev : Ev) (b : BayId) : Ev :=
  if initialLock (bayIn doors b) (bayIn bolts b) = .unsecured then ev.raiseNotice .unsecured b.num 1 else ev

/-- R185: the notice of the image check result handed over. -/
def Ev.noteImage (check : ImageCheck) (ev : Ev) : Ev :=
  match imageNotice check with
  | some (kind, detail) => ev.raiseNotice kind 0 detail
  | none => ev

/-- R74: the presence debounce of every bay begins, each switch from the open level: every bay is EMPTY. -/
def startPresence (bays : PerBay DlcBay) : PerBay DlcBay :=
  PerBay.ofFn fun b => { bays.get b with presenceRun := some 0 }

/-- R13, R74, R153, R185: the station enters LISTEN; the LISTEN period and the isolation timer start, the presence
switches are debounced from then on, and the lock states are set from the switches (DEDUCED, log entry 29). -/
def Ev.enterListen (own : StationId) (doors bolts : Byte) (ev : Ev) : Ev :=
  let s := ev.s
  let cbi :=
    { s.cbi with
      station := .listen
      ownId := own
      listenUntil := some (s.now + 2 * s.settings.refresh)
      isolationUntil := some (s.now + 4 * s.settings.refresh) }
  let dlc := { s.dlc with bays := startPresence s.dlc.bays }
  let lkc := { s.lkc with bays := lockFromSwitches doors bolts s.lkc.bays }
  BayId.all.foldl (noteUnsecured doors bolts)
    { ev with s := { s with cbi := cbi, dlc := dlc, lkc := lkc }, share := true, figures := BayId.all }

/-- R184, R185: the handover: the settings installed, the notice of the image, LISTEN. -/
def handover (straps : Straps) (check : ImageCheck) (doors bolts : Byte) (s : State) : State :=
  let x := workingSet check s.sul.image straps.csel
  let s1 := installSettings x { s with sul := { s.sul with working := x, phase := .finished } }
  (((Ev.start s1).noteImage check).enterListen straps.sid doors bolts).finish

end Sys2Proof.Machine
end

