-- ==== Sys2Proof/Machine/Bus.lean ====
section
/-! DEFINITION. The meanings of the cart bus rows: contention, the ends of own frames, the stuck line, frames received,
claims and limits (chapters 1 and 2). -/

namespace Sys2Proof.Machine

/-! ### Contending (R9, R11) -/

/-- Table 1-3: whether a station bus state may send a kind of frame. -/
def StationState.sends (st : StationState) (k : TxKind) : Bool :=
  match st, k with
  | .starting, _ => false
  | .halted, _ => false
  | .listen, .reply => true
  | .listen, .report => true
  | .listen, .claim => false
  | .listen, .notice => false
  | .clashed, .claim => false
  | .clashed, .reply => true
  | .clashed, .report => true
  | .clashed, .notice => true
  | .active, _ => true
  | .isolated, _ => true

/-- R11: the frame whose head begins at an idle: the first in queue order, where the state may send it. -/
def headToSend (c : Cbi) : Option Nat :=
  match c.queue with
  | [] => none
  | f :: _ => if c.station.sends f.kind then some f.age else none

/-- LINE_IDLE (R1, R11): the head of the first frame in queue order begins. A frame placed while the line is idle
already waits for the next idle (DESIGN CHOICE, log entry 37). By an idle the cause of an earlier mismatch is decided
(DESIGN CHOICE, log entry 39). -/
def execLineIdle (s : State) : Host.Outcome State Fault Refusal :=
  if s.runs = true ∧ s.cbi.stuck = false ∧ s.cbi.onLine = none then
    .next { s with cbi := { s.cbi with contending := headToSend s.cbi, mismatch := false } }
  else .next s

/-- R35: the origin CLAIM of a pending raise goes on the line. -/
def RaiseOrigin.onLine : RaiseOrigin → RaiseOrigin
  | .queuedClaim => .claimOnLine
  | .claimOnLine => .claimOnLine
  | .holdUntil t => .holdUntil t

/-- R9, R11: a frame wins its head: it leaves the queue and is on the line. -/
def Ev.winHead (f : TxFrame) (ev : Ev) : Ev :=
  let c := ev.s.cbi
  let ev1 := { ev.setCbi
    { c with
      queue := c.queue.filter fun x => decide (x.age ≠ f.age)
      contending := none
      onLine := some f } with handover := true }
  if f.kind = .claim then
    ev1.setShu { ev1.s.shu with raise := ev1.s.shu.raise.map fun r => { r with origin := r.origin.onLine } }
  else ev1

/-- The frame whose head is being sent. -/
def contendingFrame? (c : Cbi) : Option TxFrame :=
  match c.contending with
  | none => none
  | some age => c.queue.find? fun f => f.age = age

/-- HEAD_WON (R11). -/
def execHeadWon (s : State) : Host.Outcome State Fault Refusal :=
  match contendingFrame? s.cbi with
  | some f => .next (onEvent (Ev.winHead f) s)
  | none => .next s

/-- HEAD_LOST (R11): the station stops driving and keeps its frame in the queue. -/
def execHeadLost (s : State) : Host.Outcome State Fault Refusal :=
  .next { s with cbi := { s.cbi with contending := none } }

/-! ### Ends of own frames (R12) -/

/-- R35: the hold of a raise begins when its origin CLAIM completes. -/
def RaiseOrigin.completed (time : Nat) : RaiseOrigin → RaiseOrigin
  | .queuedClaim => .queuedClaim
  | .claimOnLine => .holdUntil time
  | .holdUntil t => .holdUntil t

/-- R35: the CLAIM placed after a drop becomes the origin CLAIM. -/
def RaiseOrigin.dropped : RaiseOrigin → RaiseOrigin
  | .queuedClaim => .queuedClaim
  | .claimOnLine => .queuedClaim
  | .holdUntil t => .holdUntil t

/-- R12, R19, R35: an own CLAIM completes: the refresh timer restarts, and a raise hold may begin. -/
def Ev.claimCompleted (ev : Ev) : Ev :=
  let u := ev.s.shu
  let now := ev.s.now
  ev.setShu
    { u with
      refresh := if ev.s.cbi.station.claims then .running (now + ev.s.settings.refresh) else u.refresh
      raise := u.raise.map fun r => { r with origin := r.origin.completed (now + ev.s.settings.raiseHold) } }

/-- The line no longer carries an own frame. -/
def Ev.clearLine (ev : Ev) : Ev :=
  ev.setCbi { ev.s.cbi with onLine := none }

/-- R12: an own frame completes. -/
def completeFrame (f : TxFrame) (s : State) : State :=
  if f.kind = .reply ∧ f.marked = true then resetWith .restart s
  else onEvent (fun ev => if f.kind = .claim then ev.clearLine.claimCompleted else ev.clearLine) s

/-- FRAME_TX_COMPLETE (R12, R173). -/
def execFrameTxComplete (s : State) : Host.Outcome State Fault Refusal :=
  match s.cbi.onLine with
  | some f => .next (completeFrame f s)
  | none => .next s

/-- R19: an own CLAIM is dropped: a new one is placed at once, and becomes the origin of a raise that counted from
the dropped one (R35). -/
def Ev.claimDropped (ev : Ev) : Ev :=
  let u := ev.s.shu
  { ev.setShu { u with raise := u.raise.map fun r => { r with origin := r.origin.dropped } } with claim := true }

/-- R178: a NOTICE is dropped: the overflow indicator shows the loss. -/
def Ev.noticeDropped (ev : Ev) : Ev :=
  { ev with s := { ev.s with ntu := { ev.s.ntu with overflow := true } } }

/-- R12: an own frame is dropped; a REPLY or REPORT is lost, and with a marked REPLY its restart (R173) (DEDUCED, log
entry 22). -/
def Ev.dropFrame (f : TxFrame) (ev : Ev) : Ev :=
  let ev1 := ev.setCbi { ev.s.cbi with onLine := none, mismatch := true }
  match f.kind with
  | .claim => ev1.claimDropped
  | .notice => ev1.noticeDropped
  | .reply => ev1
  | .report => ev1

/-- POST_HEAD_MISMATCH (R12). -/
def execPostHeadMismatch (s : State) : Host.Outcome State Fault Refusal :=
  match s.cbi.onLine with
  | some f => .next (onEvent (Ev.dropFrame f) s)
  | none => .next s

/-- MISMATCH_CLASH_CONFIRMED (R12, R15): the line shows a recessive bit within 1 ms of a post-head mismatch, as
LineWatch counts it (DESIGN CHOICE, log entry 39). -/
def execMismatchClashConfirmed (s : State) : Host.Outcome State Fault Refusal :=
  if s.cbi.mismatch then
    .next (onEvent (fun ev => (ev.setCbi { ev.s.cbi with mismatch := false }).clash) s)
  else .next s

/-! ### The stuck line (R1, R12, R14) -/

/-- R14: a stuck condition starts: an ACTIVE station with N_cfg of 2 or more enters ISOLATED. The run of dominant bits may
have begun before a mismatch, whose 1 ms then still goes on: its cause stays open (R12; DESIGN CHOICE, log entry 39). -/
def Ev.stuck (ev : Ev) : Ev :=
  let ev1 := ev.setCbi { ev.s.cbi with stuck := true }
  if ev1.s.cbi.station = .active ∧ 2 ≤ ev1.s.settings.nCfg then ev1.enterIsolated 2 else ev1

/-- STUCK_LINE_START (R1, R14): in STARTING and HALTED the line is not watched (DESIGN CHOICE, log entry 38). -/
def execStuckLineStart (s : State) : Host.Outcome State Fault Refusal :=
  .next (onEvent Ev.stuck s)

/-- STUCK_LINE_END (R1). -/
def execStuckLineEnd (s : State) : Host.Outcome State Fault Refusal :=
  .next { s with cbi := { s.cbi with stuck := false } }

/-! ### Frames received (R6 to R8) -/

/-- RX_FRAME_DISCARDED (R7): the receive error count rises and stays at 255. -/
def execRxFrameDiscarded (_ : RxFault) (s : State) : Host.Outcome State Fault Refusal :=
  if s.runs then .next { s with cbi := { s.cbi with rxErrors := min 255 (s.cbi.rxErrors + 1) } } else .next s

/-- FRAME_SKIPPED (R6): neither checked, counted nor taken. -/
def execFrameSkipped (_ : Byte) (s : State) : Host.Outcome State Fault Refusal :=
  .next s

/-- OWN_ID_FRAME (R8, R15): the voice of a second station with the same id. -/
def execOwnIdFrame (s : State) : Host.Outcome State Fault Refusal :=
  .next (onEvent Ev.clash s)

/-- IGNORED_FRAME (R8, R14): a valid frame from another station, acted on no further (DEDUCED, log entry 20). -/
def execIgnoredFrame (sender : StationId) (s : State) : Host.Outcome State Fault Refusal :=
  if sender = s.cbi.ownId then .next (onEvent Ev.clash s) else .next (onFrame sender id s)

/-! ### Claims (R20, R22, R23) -/

/-- The entry of an id in the peer table. -/
def findPeer (peers : List Peer) (id : StationId) : Option Peer :=
  peers.find? fun p => p.id = id

/-- The peer table with an entry made or replaced, in ascending order of id. -/
def storePeer (p : Peer) : List Peer → List Peer
  | [] => [p]
  | q :: rest =>
    if p.id < q.id then p :: q :: rest else if p.id = q.id then p :: rest else q :: storePeer p rest

/-- R20: the entry of a sender with the figures of its claim: LIVE, its age at 0, its noted marks kept. -/
def claimedPeer (old : Option Peer) (sender : StationId) (now : Nat) (c : ClaimFigures) : Peer where
  id := sender
  state := .live
  isolated := c.isolated
  d := c.d
  f := c.f
  w := c.w
  a := c.a
  cSel := c.cSel
  nCfg := c.nCfg
  trimmed := c.trimmed
  heardAt := now
  countNoted := old.any Peer.countNoted
  ceilingNoted := old.any Peer.ceilingNoted
  g := (old.map Peer.g).getD 0

/-- R22: whether COUNT_MISMATCH is raised for a LIVE entry. -/
def countMismatch (nCfg : Nat) (p : Peer) : Bool :=
  !p.countNoted && (decide (nCfg < p.id.toNat) || decide (p.nCfg ≠ nCfg))

/-- R23: whether CEILING_MISMATCH is raised for an entry. -/
def ceilingMismatch (cSel : Nat) (p : Peer) : Bool :=
  !p.ceilingNoted && decide (p.cSel ≠ cSel)

/-- R22, R23: an entry with its noted marks after the mismatch tests. -/
def notedPeer (nCfg cSel : Nat) (p : Peer) : Peer :=
  { p with
    countNoted := p.countNoted || countMismatch nCfg p
    ceilingNoted := p.ceilingNoted || ceilingMismatch cSel p }

/-- A notice raised when a condition holds. -/
def Ev.raiseIf (c : Bool) (kind : NoticeKind) (bay detail : Nat) (ev : Ev) : Ev :=
  if c then ev.raiseNotice kind bay detail else ev

/-- R20: a claim stored, the mismatch tests, and then a computation and the overdraw check. -/
def Ev.takeClaim (sender : StationId) (c : ClaimFigures) (ev : Ev) : Ev :=
  let u := ev.s.shu
  let nCfg := ev.s.settings.nCfg
  let cSel := ev.s.settings.cSel
  let p := claimedPeer (findPeer u.peers sender) sender ev.s.now c
  let ev1 := ev.setShu { u with peers := storePeer (notedPeer nCfg cSel p) u.peers }
  let ev2 := (ev1.raiseIf (countMismatch nCfg p) .countMismatch 0 sender.toNat).raiseIf (ceilingMismatch cSel p)
    .ceilingMismatch 0 sender.toNat
  { ev2 with share := true, overdraw := true }

/-- R20, R186: a CLAIM of the wrong length is not taken. -/
def Ev.claimArrives (sender : StationId) (payload : List Byte) (ev : Ev) : Ev :=
  match readClaim payload with
  | some c => ev.takeClaim sender c
  | none => ev

/-- CLAIM_ARRIVAL (R20). A sender of the own id is the voice of a second station (R8), and a CLAIM from the cart panel
is ignored (DEDUCED, log entry 20). -/
def execClaimArrival (sender : StationId) (payload : List Byte) (s : State) : Host.Outcome State Fault Refusal :=
  if sender = s.cbi.ownId then .next (onEvent Ev.clash s)
  else if sender = 0 then .next (onFrame sender id s)
  else .next (onFrame sender (Ev.claimArrives sender payload) s)

/-- R24, R186: the panel limit set or cleared; a computation follows. A LIMIT of the wrong length is not taken. -/
def Ev.limitArrives (payload : List Byte) (ev : Ev) : Ev :=
  match readLimit payload with
  | some v => { ev.setShu { ev.s.shu with panelLimit := panelLimitOf v } with share := true }
  | none => ev

/-- LIMIT_ARRIVAL (R24). -/
def execLimitArrival (payload : List Byte) (s : State) : Host.Outcome State Fault Refusal :=
  .next (onFrame 0 (Ev.limitArrives payload) s)

end Sys2Proof.Machine
end

