-- ==== Sys2Proof/Machine/Timers.lean ====
section
/-! DEFINITION. The meanings of the timers of the station and the Share Unit, the shed wait, the sensor sample and the
supply fault (chapters 1 to 3). -/

namespace Sys2Proof.Machine

/-- An expiry: the timer's moment is given while it runs, and the clock moves up to it (DESIGN CHOICE, log entry 2).
The expiry of a timer that does not run changes nothing. -/
def onTimer (due : Option Nat) (body : Ev → Ev) (s : State) : State :=
  match due with
  | some t => if s.runs then (body (Ev.start (s.upTo t))).finish else s
  | none => s

/-- R14: the LISTEN period expires. -/
def Ev.listenOver (ev : Ev) : Ev :=
  if ev.s.cbi.station = .listen then
    if ev.s.cbi.stuck = true ∧ 2 ≤ ev.s.settings.nCfg then ev.enterIsolated 2 else ev.changeStation .active
  else ev

/-- LISTEN_PERIOD_EXPIRY (R14). -/
def execListenPeriodExpiry (s : State) : Host.Outcome State Fault Refusal :=
  .next (onTimer s.cbi.listenUntil Ev.listenOver s)

/-- R14: the isolation timer expires: an ACTIVE station with N_cfg of 2 or more enters ISOLATED. -/
def Ev.isolationOver (ev : Ev) : Ev :=
  let ev1 := ev.setCbi { ev.s.cbi with isolationUntil := none }
  if ev1.s.cbi.station = .active ∧ 2 ≤ ev1.s.settings.nCfg then ev1.enterIsolated 1 else ev1

/-- ISOLATION_TIMER_EXPIRY (R14). -/
def execIsolationTimerExpiry (s : State) : Host.Outcome State Fault Refusal :=
  .next (onTimer s.cbi.isolationUntil Ev.isolationOver s)

/-- The moment of the refresh timer while it runs. -/
def RefreshTimer.due : RefreshTimer → Option Nat
  | .stopped => none
  | .running t => some t
  | .expired => none

/-- R19: the refresh timer expires and stays expired; a CLAIM is placed in ACTIVE and ISOLATED. -/
def Ev.refreshOver (ev : Ev) : Ev :=
  { ev.setShu { ev.s.shu with refresh := .expired } with claim := true }

/-- REFRESH_TIMER_EXPIRY (R19). -/
def execRefreshTimerExpiry (s : State) : Host.Outcome State Fault Refusal :=
  .next (onTimer s.shu.refresh.due Ev.refreshOver s)

/-- R21: the moment at which a LIVE entry turns STALE. -/
def staleAt (refresh : Nat) (p : Peer) : Nat :=
  p.heardAt + 3 * refresh

/-- The moment at which the LIVE entry of an id turns STALE. -/
def staleDue (s : State) (id : StationId) : Option Nat :=
  match findPeer s.shu.peers id with
  | some p => if p.state = .live then some (staleAt s.settings.refresh p) else none
  | none => none

/-- R21: the entry of an id turns STALE and a computation runs. -/
def Ev.peerStale (id : StationId) (ev : Ev) : Ev :=
  { ev.setShu { ev.s.shu with
      peers := ev.s.shu.peers.map fun p => if p.id = id then { p with state := .stale } else p } with share := true }

/-- PEER_ENTRY_STALE (R21). -/
def execPeerEntryStale (id : StationId) (s : State) : Host.Outcome State Fault Refusal :=
  .next (onTimer (staleDue s id) (Ev.peerStale id) s)

/-- The moment at which the hold of a pending raise expires, once it runs. -/
def raiseDue (u : Shu) : Option Nat :=
  match u.raise with
  | some r =>
    match r.origin with
    | .holdUntil t => some t
    | .queuedClaim => none
    | .claimOnLine => none
  | none => none

/-- R36, R42: the raise hold expires: Lapp takes the target and the trimmed flag clears. -/
def Ev.raiseOver (ev : Ev) : Ev :=
  match ev.s.shu.raise with
  | some r => ev.changeShu { ev.s.shu with lapp := r.target, raise := none, trimmed := false }
  | none => ev

/-- RAISE_HOLD_EXPIRY (R36). -/
def execRaiseHoldExpiry (s : State) : Host.Outcome State Fault Refusal :=
  .next (onTimer (raiseDue s.shu) Ev.raiseOver s)

/-- SHED_WAIT_END (R64). -/
def execShedWaitEnd (bay : BayId) (s : State) : Host.Outcome State Fault Refusal :=
  .next (onTimer ((s.bscBay bay).rise.map Rise.shedUntil)
    (fun ev => ev.updBsc bay (BscBay.endShedWait ev.s.now)) s)

/-- SENSOR_SAMPLE (R49 to R52). -/
def execSensorSample (reading1 reading2 : Int) (s : State) : Host.Outcome State Fault Refusal :=
  .next (onEvent (Ev.sample reading1 reading2) s)

/-- SUPPLY_FAULT (R67). -/
def execSupplyFault (bay : BayId) (condition : SupplyCondition) (s : State) : Host.Outcome State Fault Refusal :=
  if faultJudged (s.bscBay bay) condition then .next (onEvent (Ev.supplyFault bay condition) s) else .next s

end Sys2Proof.Machine
end

