-- ==== Sys2Proof/Machine/DockEvents.lean ====
section
/-! DEFINITION. The meanings of the presence, polling, dock line and retry rows (chapters 4 and 6). -/

namespace Sys2Proof.Machine

/-! ### Presence (R74 to R76) -/

/-- R74: the debounce time of a presence switch in ms. -/
def presenceDebounce : Nat := 50

/-- R74: the presence debounce begun anew, where it runs. -/
def DlcBay.restartPresence (x : DlcBay) : DlcBay :=
  { x with presenceRun := x.presenceRun.map fun _ => 0 }

/-- R74: one ms of a presence switch, true for closed: the run of the level it does not count as. -/
def DlcBay.readPresence (closed : Bool) (x : DlcBay) : DlcBay :=
  { x with presenceRun := x.presenceRun.map (heldFor (closed != decide (x.dock ≠ .empty))) }

/-- R74: whether a presence switch has read its new level for the debounce time. -/
def DlcBay.presenceSettled (x : DlcBay) : Bool :=
  x.presenceRun.any fun n => decide (presenceDebounce ≤ n)

/-- R75: a tablet is seated in an EMPTY bay. -/
def Ev.presenceGained (b : BayId) (ev : Ev) : Ev :=
  if (ev.s.dlcBay b).dock = .empty then
    let ev1 := ev.updDlc b fun x =>
      { x.restartPresence with dock := .seated, misses := 0, pollUntil := none, identUntil := none }
    ((ev1.supplyOn b).needEval b).request b .ident
  else ev

/-- PRESENCE_GAINED (R75). -/
def execPresenceGained (bay : BayId) (s : State) : Host.Outcome State Fault Refusal :=
  .next (onEvent (Ev.presenceGained bay) s)

/-- R76: UNSEATED, when the tablet leaves a closed bay at rest. -/
def Ev.noteUnseated (b : BayId) (ev : Ev) : Ev :=
  let x := ev.s.lkcBay b
  if x.doorOpen = false ∧ (x.lock = some .locked ∨ x.lock = some .queued) then
    ev.raiseNotice .unseated b.num (if (ev.s.dlcBay b).record.isSome then 1 else 0)
  else ev

/-- R76, R79: the dock side of a bay after presence lost. -/
def DlcBay.emptied (x : DlcBay) : DlcBay :=
  { x.restartPresence with
    dock := .empty
    record := none
    lastTablet := x.record.map TabletRecord.tag
    misses := 0
    pollUntil := none
    identUntil := none }

/-- R76, R122, R159, R165: the tablet leaves a bay. -/
def Ev.presenceLost (b : BayId) (ev : Ev) : Ev :=
  if (ev.s.dlcBay b).dock = .empty then ev
  else
    let ev1 := (ev.noteUnseated b).updDlc b DlcBay.emptied
    let ev2 := ((ev1.dropServed b).dropItems b).supplyOff b
    ((ev2.noteTaken b).dropCheckout b).needEval b

/-- PRESENCE_LOST (R76). -/
def execPresenceLost (bay : BayId) (s : State) : Host.Outcome State Fault Refusal :=
  .next (onEvent (Ev.presenceLost bay) s)

/-! ### Polling (R88) -/

/-- R88: the poll timer of a bay expires: it restarts, and STATUS is requested. -/
def Ev.pollOver (b : BayId) (ev : Ev) : Ev :=
  let now := ev.s.now
  let d := (ev.s.dlcBay b).dock
  if d = .active ∨ d = .asleep then
    (ev.updDlc b fun x => { x with pollUntil := some (now + pollPeriod d) }).request b .status
  else ev.updDlc b fun x => { x with pollUntil := none }

/-- POLL_TIMER_EXPIRY (R88). -/
def execPollTimerExpiry (bay : BayId) (s : State) : Host.Outcome State Fault Refusal :=
  .next (onTimer (s.dlcBay bay).pollUntil (Ev.pollOver bay) s)

/-- R85, R88: the IDENT retry timer of a bay expires: IDENT is requested for a bay still SEATED. -/
def Ev.identOver (b : BayId) (ev : Ev) : Ev :=
  let ev1 := ev.updDlc b fun x => { x with identUntil := none }
  if (ev1.s.dlcBay b).dock = .seated then ev1.request b .ident else ev1

/-- IDENT_RETRY_EXPIRY (R85). -/
def execIdentRetryExpiry (bay : BayId) (s : State) : Host.Outcome State Fault Refusal :=
  .next (onTimer (s.dlcBay bay).identUntil (Ev.identOver bay) s)

/-! ### Exchanges (R72, R73) -/

/-- REPLY_WINDOW_TIMEOUT (R73). -/
def execReplyWindowTimeout (bay : BayId) (s : State) : Host.Outcome State Fault Refusal :=
  .next (onEvent (Ev.tryFailed bay) s)

/-- BAD_REPLY (R72). -/
def execBadReply (bay : BayId) (s : State) : Host.Outcome State Fault Refusal :=
  .next (onEvent (Ev.tryFailed bay) s)

/-- QUIET_WAIT_END (R73). -/
def execQuietWaitEnd (bay : BayId) (s : State) : Host.Outcome State Fault Refusal :=
  .next (onEvent (Ev.repeatRequest bay) s)

/-- QUIET_WAIT_FAIL (R73). -/
def execQuietWaitFail (bay : BayId) (s : State) : Host.Outcome State Fault Refusal :=
  .next (onEvent (Ev.notQuiet bay) s)

/-- R85: a reply to an IDENT; a field out of bounds makes it a bad reply (R72). -/
def Ev.identReply (b : BayId) (payload : List Byte) (ev : Ev) : Ev :=
  match exchangeAt? ev.s b .awaitingReply with
  | some (i, _, { request := .ident, .. }) =>
    match readIdent ev.s.now payload with
    | some r => (ev.identified b r).release i
    | none => ev.tryFailed b
  | _ => ev

/-- IDENT_REPLY (R85). -/
def execIdentReply (bay : BayId) (payload : List Byte) (s : State) : Host.Outcome State Fault Refusal :=
  .next (onEvent (Ev.identReply bay payload) s)

/-- R86: a reply to a STATUS. -/
def Ev.statusReply (b : BayId) (payload : List Byte) (ev : Ev) : Ev :=
  match exchangeAt? ev.s b .awaitingReply with
  | some (i, _, { request := .status, .. }) =>
    match readStatus payload with
    | some (percent, inhibit, free) => (ev.statusTaken b percent inhibit free).release i
    | none => ev.tryFailed b
  | _ => ev

/-- STATUS_REPLY (R86). -/
def execStatusReply (bay : BayId) (payload : List Byte) (s : State) : Host.Outcome State Fault Refusal :=
  .next (onEvent (Ev.statusReply bay payload) s)

/-- R87: a reply to a MODE. -/
def Ev.modeReply (b : BayId) (payload : List Byte) (ev : Ev) : Ev :=
  match exchangeAt? ev.s b .awaitingReply with
  | some (i, _, { request := .mode asked, .. }) =>
    match readMode payload with
    | some held => (ev.modeTaken b asked held).release i
    | none => ev.tryFailed b
  | _ => ev

/-- MODE_REPLY (R87). -/
def execModeReply (bay : BayId) (payload : List Byte) (s : State) : Host.Outcome State Fault Refusal :=
  .next (onEvent (Ev.modeReply bay payload) s)

/-- R112, R115: a reply to a PKG_BEGIN. -/
def Ev.pkgBeginReply (b : BayId) (payload : List Byte) (ev : Ev) : Ev :=
  match exchangeAt? ev.s b .awaitingReply with
  | some (i, item, { request := .pkgBegin .., .. }) =>
    match readBegin payload with
    | some r => (ev.answered b).beginTaken i item r
    | none => ev.tryFailed b
  | _ => ev

/-- PKG_BEGIN_REPLY (R112). -/
def execPkgBeginReply (bay : BayId) (payload : List Byte) (s : State) : Host.Outcome State Fault Refusal :=
  .next (onEvent (Ev.pkgBeginReply bay payload) s)

/-- R113, R115: a reply to a PKG_BLOCK. -/
def Ev.pkgBlockReply (b : BayId) (payload : List Byte) (ev : Ev) : Ev :=
  match exchangeAt? ev.s b .awaitingReply with
  | some (i, item, { request := .pkgBlock index _, .. }) =>
    match readBlock index payload with
    | some r => (ev.answered b).blockTaken i item index r
    | none => ev.tryFailed b
  | _ => ev

/-- PKG_BLOCK_REPLY (R113). -/
def execPkgBlockReply (bay : BayId) (payload : List Byte) (s : State) : Host.Outcome State Fault Refusal :=
  .next (onEvent (Ev.pkgBlockReply bay payload) s)

/-- R114, R115: a reply to a PKG_END. -/
def Ev.pkgEndReply (b : BayId) (payload : List Byte) (ev : Ev) : Ev :=
  match exchangeAt? ev.s b .awaitingReply with
  | some (i, item, { request := .pkgEnd _, .. }) =>
    match readEnd payload with
    | some done => (ev.answered b).endTaken i item done
    | none => ev.tryFailed b
  | _ => ev

/-- PKG_END_REPLY (R114). -/
def execPkgEndReply (bay : BayId) (payload : List Byte) (s : State) : Host.Outcome State Fault Refusal :=
  .next (onEvent (Ev.pkgEndReply bay payload) s)

/-! ### The retry delay (R117) -/

/-- RETRY_DELAY_EXPIRY (R117). -/
def execRetryDelayExpiry (bay : BayId) (s : State) : Host.Outcome State Fault Refusal :=
  .next (onTimer (s.pksBay bay).retryUntil
    (fun ev => (ev.updPks bay fun x => { x with retryUntil := none }).needEval bay) s)

end Sys2Proof.Machine
end

