-- ==== Sys2Proof/Machine/LockEvents.lean ====
section
/-! DEFINITION. The meanings of the door, bolt, driver and release timer rows (chapters 7 and 8). -/

namespace Sys2Proof.Machine

/-! ### Switches (R130, R140 to R148): a change comes about only from the other level -/

/-- DOOR_OPENED (R130, R140, R142, R144 to R148) (DEDUCED, log entry 30). -/
def execDoorOpened (bay : BayId) (s : State) : Host.Outcome State Fault Refusal :=
  if (s.lkcBay bay).doorOpen then .next s else .next (onEvent (Ev.doorOpens bay) s)

/-- DOOR_CLOSED (R130, R146, R165) (DEDUCED, log entry 30). -/
def execDoorClosed (bay : BayId) (s : State) : Host.Outcome State Fault Refusal :=
  if (s.lkcBay bay).doorOpen then .next (onEvent (Ev.doorCloses bay) s) else .next s

/-- BOLT_RETRACTED (R130, R140, R148) (DEDUCED, log entry 30). -/
def execBoltRetracted (bay : BayId) (s : State) : Host.Outcome State Fault Refusal :=
  if (s.lkcBay bay).boltRetracted then .next s else .next (onEvent (Ev.boltRetracts bay) s)

/-- BOLT_EXTENDED (R130, R131, R146, R148) (DEDUCED, log entry 30). -/
def execBoltExtended (bay : BayId) (s : State) : Host.Outcome State Fault Refusal :=
  if (s.lkcBay bay).boltRetracted then .next (onEvent (Ev.boltExtends bay) s) else .next s

/-! ### Timers -/

/-- EXTEND_WAIT_EXPIRY (R131). -/
def execExtendWaitExpiry (bay : BayId) (s : State) : Host.Outcome State Fault Refusal :=
  .next (onTimer (s.lkcBay bay).extendUntil (Ev.extendWaitOver bay) s)

/-- PREPARE_END (R139, R140). -/
def execPrepareEnd (bay : BayId) (s : State) : Host.Outcome State Fault Refusal :=
  match driverAt? s bay with
  | some (i, e, .prepare t, _) => .next (onTimer (some t) (Ev.startPulse i e) s)
  | _ => .next s

/-- PULSE_END (R141). -/
def execPulseEnd (bay : BayId) (s : State) : Host.Outcome State Fault Refusal :=
  match driverAt? s bay with
  | some (i, e, .pulse _ t seen, opened) => .next (onTimer (some t) (Ev.endPulse i e seen opened) s)
  | _ => .next s

/-- HOLD_WINDOW_EXPIRY (R145). -/
def execHoldWindowExpiry (bay : BayId) (s : State) : Host.Outcome State Fault Refusal :=
  match driverAt? s bay with
  | some (i, e, .hold t, opened) => .next (onTimer (some t) (Ev.endHold i e opened) s)
  | _ => .next s

/-- COOLDOWN_END (R143). -/
def execCooldownEnd (bay : BayId) (s : State) : Host.Outcome State Fault Refusal :=
  .next (onTimer (s.lkcBay bay).cooldownUntil (Ev.leaveCooldown bay) s)

/-- R137: the wait limit of the entry of a bay, while it has not fallen. -/
def limitDue (l : Lkc) (b : BayId) : Option Nat :=
  match l.entry? b with
  | some e => if e.limitFallen then none else some (e.made + waitLimit)
  | none => none

/-- R137, R160: the wait limit of the entry of a bay falls; the entry is looked at. -/
def Ev.limitFalls (b : BayId) (ev : Ev) : Ev :=
  ev.setQueueAndDrivers
    { ev.s.lkc with queue := ev.s.lkc.queue.map fun e => if e.bay = b then { e with limitFallen := true } else e }

/-- WAIT_LIMIT (R137, R160). -/
def execWaitLimit (bay : BayId) (s : State) : Host.Outcome State Fault Refusal :=
  .next (onTimer (limitDue s.lkc bay) (Ev.limitFalls bay) s)

end Sys2Proof.Machine
end

