-- ==== Sys2Proof/Machine/Reports.lean ====
section
/-! DEFINITION. The REPORT frames of a QUERY (R172, Table 11-3). -/

namespace Sys2Proof.Machine

/-- A temperature as a byte, in two's complement (R186). -/
def signedByte (t : Int) : Byte :=
  BitVec.ofInt 8 t

/-- Table 11-3: a sensor's last good reading, −128 for none. -/
def sensorByte (x : Sensor) : Byte :=
  signedByte (x.last.getD (-128))

/-- Table 11-3: the sensor faults. -/
def sensorFaults (s1 s2 : Sensor) : Byte :=
  byteOf ((if s1.faulty then 1 else 0) + if s2.faulty then 2 else 0)

/-- Table 11-3: the STATION values (R43, R70, R7, section 9.4). -/
def stationValues (s : State) : List Byte :=
  [byteOf s.cbi.station.code] ++ wordOf s.settings.cSel ++ wordOf s.shu.cEff ++ [byteOf s.settings.nCfg] ++
    wordOf (s.shu.panelLimit.getD 0) ++
    [byteOf s.shu.lapp, byteOf s.shu.share, byteOf s.shu.d, byteOf s.shu.f, byteOf s.shu.w, flagByte s.shu.trimmed,
     byteOf s.bsc.derate.code, sensorByte s.bsc.sensor1, sensorByte s.bsc.sensor2,
     sensorFaults s.bsc.sensor1 s.bsc.sensor2, byteOf s.cbi.rxErrors, byteOf s.ntu.mask, byteOf s.ntu.entries.length,
     flagByte s.ntu.overflow]

/-- Table 11-3: a peer entry in a PEERS frame (R43). -/
def peerBytes (p : Peer) : List Byte :=
  [byteOf p.id.toNat, if p.state = .live then 0 else 1, flagByte p.isolated, flagByte p.trimmed, byteOf p.d, byteOf p.f,
   byteOf p.w, byteOf p.a, byteOf p.g]

/-- R172: the number of PEERS frames: one per three entries, and one for an empty table. -/
def peerFrames (peers : List Peer) : Nat :=
  max 1 ((peers.length + 2) / 3)

/-- Table 11-3: the PEERS values of a frame, counted from 0. -/
def peerValues (peers : List Peer) (frame : Nat) : List Byte :=
  (((peers.drop (3 * frame)).take 3).map peerBytes).flatten

/-- Table 11-3: the byte of a target's outcome, 0 outside the target set. -/
def outcomeByte : Option Target → Byte
  | some t => byteOf t.outcome.code
  | none => 0

/-- Table 11-3: the byte of a target's attempt count. -/
def attemptByte : Option Target → Byte
  | some t => byteOf t.attempts
  | none => 0

/-- Table 11-3: the byte of a target's residual. -/
def residualByte : Option Target → Byte
  | some t => byteOf t.outcome.residual
  | none => 0

/-- Table 11-3: the PACKAGE values (R106). -/
def packageValues (p : Package) : List Byte :=
  [byteOf p.state.code, byteOf p.length, byteOf (bayBits (PerBay.ofFn fun b => (p.targets.get b).isSome))] ++
    p.targets.toList.map outcomeByte ++ p.targets.toList.map attemptByte ++ p.targets.toList.map residualByte

/-- Table 11-3: the tablet record, or its absence (R91). -/
def recordBytes (now : Nat) : Option TabletRecord → List Byte
  | none => [0] ++ noTag ++ [0, 0, 0, 0, 0, 0]
  | some r =>
    [1] ++ r.tag ++ [byteOf r.cls, byteOf (r.percent.getD 255), flagByte r.inhibit, flagByte r.free] ++
      wordOf (min 65535 (now - r.answeredAt))

/-- Table 11-3: BAY n, frame 1 (R91). -/
def bayValues1 (s : State) (b : BayId) : List Byte :=
  let d := s.dlcBay b
  [byteOf d.dock.code, byteOf d.misses] ++ recordBytes s.now d.record ++ tagBytes d.lastTablet

/-- R152: the number of the driver assigned to a bay, its pulse length and the time left. In PREPARE the manual gives no
time left (DESIGN CHOICE, log entry 9). -/
def driverValues (s : State) (b : BayId) : List Byte :=
  match driverAt? s b with
  | none => [0, 0, 0, 0, 0]
  | some (i, e, phase, _) =>
    let left : Nat :=
      match phase with
      | .prepare _ => Config.prepareTimeLeft s.free
      | .pulse _ untilTime _ => untilTime - s.now
      | .hold untilTime => untilTime - s.now
    [if i = .d1 then 1 else 2] ++ wordOf e.pulse ++ wordOf left

/-- R152: the queue entry of a bay. The time left to a wait limit that has fallen is shown as 0 (DESIGN CHOICE, log
entry 34). -/
def entryValues (s : State) (b : BayId) : List Byte :=
  match s.lkc.entry? b with
  | none => [0, 0, 0, 0, 0, 0, 0, 0]
  | some e =>
    [1, byteOf e.kind.code, byteOf (entryWait s e).code, flagByte e.retry] ++ wordOf e.pulse ++
      wordOf (e.made + waitLimit - s.now)

/-- Table 11-4: the lock state of a report. -/
def lockCode : Option LockState → Nat
  | some l => l.code
  | none => 0

/-- Table 11-3: BAY n, frame 2 (R66, R70, R152). A measured power above 255 W is shown as 255 (DESIGN CHOICE, log entry
7). -/
def bayValues2 (s : State) (b : BayId) : List Byte :=
  let x := s.bscBay b
  let l := s.lkcBay b
  [byteOf x.supply.code, byteOf x.weight] ++ wordOf (x.fixed.getD 0xFFFF) ++
    [byteOf (phaseCode x.phase), byteOf x.request, byteOf x.floor, byteOf x.grant] ++ wordOf x.applied.current ++
    [if x.applied.nineVolt then 9 else 5, byteOf (min 255 (x.measuredPower s.now)), byteOf (lockCode l.lock),
     flagByte l.doorOpen, flagByte l.boltRetracted, flagByte l.extendUntil.isSome, byteOf l.jams] ++ wordOf (l.lastRetract.getD 0xFFFF) ++
    driverValues s b ++ entryValues s b

/-- Table 11-3: the release record. -/
def releaseBytes : Option ReleaseRecord → List Byte
  | none => [0, 0]
  | some r => [byteOf r.kind.code, byteOf r.outcome.code]

/-- Table 11-3: the package list, 0 in each empty place. -/
def listBytes (l : List Nat) : List Byte :=
  ((l.map byteOf) ++ List.replicate 4 0).take 4

/-- Table 11-3: the transfer in flight (R128). -/
def transferBytes : Option Transfer → List Byte
  | none => [0, 0, 0]
  | some t =>
    [byteOf t.id, byteOf t.next, byteOf ((if t.suspended then 1 else 0) + if t.takeover then 2 else 0)]

/-- Table 11-3: the last transfer end (R128). -/
def lastEndBytes : Option TransferEnd → List Byte
  | none => [0, 0, 0, 0]
  | some e => [byteOf e.id, byteOf e.result.code, byteOf e.result.causeCode, byteOf e.result.residual]

/-- Table 11-3: BAY n, frame 3 (R106, R128, R168). -/
def bayValues3 (s : State) (b : BayId) : List Byte :=
  let l := s.lkcBay b
  [flagByte l.quarantine] ++ tagBytes l.assignment ++ releaseBytes l.release ++ listBytes (s.pksBay b).list ++
    transferBytes (s.dlcBay b).transfer ++ [flagByte (s.pksBay b).retryUntil.isSome] ++ lastEndBytes (s.dlcBay b).lastEnd

/-- R172: the payloads of the REPORT frames of one answer: subject, id, frame number, frame count, values. -/
def reportPayloads (subject id : Byte) (values : List (List Byte)) : List (List Byte) :=
  values.zipIdx.map fun v => [subject, id, byteOf (v.2 + 1), byteOf values.length] ++ v.1

/-- The values of the answer to QUERY PEERS, frame by frame. -/
def peersAnswer (s : State) : List (List Byte) :=
  (List.range (peerFrames s.shu.peers)).map (peerValues s.shu.peers)

/-- The values of the answer to QUERY BAY, frame by frame. -/
def bayAnswer (s : State) (b : BayId) : List (List Byte) :=
  [bayValues1 s b, bayValues2 s b, bayValues3 s b]

/-- R172: the frames of an answer placed together. -/
def placeReports (payloads : List (List Byte)) (s : State) : State :=
  payloads.foldl (fun s p => placeFrame .report p false s) s

/-- R172: the answer to a QUERY: the values are gathered from the state as the event leaves it (DEDUCED, log entry 14).
The running number of the free values moves on past those that the values may have taken (DESIGN CHOICE, log entry
6). -/
def Ev.sendReports (subject id : Byte) (used : Nat) (values : State → List (List Byte)) (ev : Ev) : Ev :=
  let ev' := ev.settle
  let s := placeReports (reportPayloads subject id (values ev'.s)) ev'.s
  { ev' with s := { s with free := s.free + used } }

/-- R10, R172: a QUERY answered by so many REPORT frames, whose values take so many free values (DEDUCED, log entry
14). -/
def onQuery (subject id : Byte) (frames used : Nat) (values : State → List (List Byte)) (s : State) : State :=
  onFrame 0 (fun ev => if slotsFor frames s then ev.sendReports subject id used values else ev) s

end Sys2Proof.Machine
end

