-- ==== Sys2Proof/Machine/Panel.lean ====
section
/-! DEFINITION. The meanings of the commands of the cart panel: releases, quarantine, assignment, urgency, fixed mode,
the notice mask, queries, restart and unknown kinds (chapters 3, 8 and 9). -/

namespace Sys2Proof.Machine

/-! ### RELEASE (R154 to R161) -/

/-- R154 to R157: a RELEASE of a kind for a bay: refused by its first failing test, or admitted. -/
def Ev.tryRelease (kind : ReleaseKind) (bay hold : Byte) (b : BayId) (ev : Ev) : Ev :=
  match admissionRefusal ev.s b kind with
  | some code => ev.reply 0x10 bay code
  | none => (ev.admitRelease b kind (holdWindowOf ev.s.settings.holdWindow hold)).reply 0x10 bay .accepted

/-- R154: a RELEASE of a kind. -/
def takeRelease (kind : ReleaseKind) (bay hold : Byte) (s : State) : State :=
  onCommand (Ev.forBay 0x10 bay (Ev.tryRelease kind bay hold)) s

/-- RELEASE_CHECKOUT (R154 to R158). -/
def execReleaseCheckout (bay hold : Byte) (s : State) : Host.Outcome State Fault Refusal :=
  .next (takeRelease .checkout bay hold s)

/-- RELEASE_RETURN (R154 to R157). -/
def execReleaseReturn (bay hold : Byte) (s : State) : Host.Outcome State Fault Refusal :=
  .next (takeRelease .returning bay hold s)

/-- RELEASE_SERVICE (R154 to R157, R161). -/
def execReleaseService (bay hold : Byte) (s : State) : Host.Outcome State Fault Refusal :=
  .next (takeRelease .service bay hold s)

/-- R154, R170: the answer to a RELEASE whose kind code or length is not one that is admitted. A bay out of bounds
comes before the kind (DEDUCED, log entry 18). -/
def Ev.badRelease (payload : List Byte) (ev : Ev) : Ev :=
  match payload with
  | [bay, code, hold] =>
    match ReleaseKind.ofCode? code with
    | some kind => ev.forBay 0x10 bay (Ev.tryRelease kind bay hold)
    | none => ev.forBay 0x10 bay fun _ e => e.reply 0x10 bay .badValue
  | _ => ev.replyBadLength 0x10 payload

/-- RELEASE_BAD_KIND (R154). -/
def execReleaseBadKind (payload : List Byte) (s : State) : Host.Outcome State Fault Refusal :=
  .next (onCommand (Ev.badRelease payload) s)

/-! ### QUARANTINE and ASSIGN (R162, R163) -/

/-- R162: the quarantine flag of a bay takes the setting. -/
def Ev.setQuarantine (bay setting : Byte) (b : BayId) (ev : Ev) : Ev :=
  if setting = 0 ∨ setting = 1 then
    (ev.updLkc b fun x => { x with quarantine := decide (setting = 1) }).reply 0x11 bay .done
  else ev.reply 0x11 bay .badValue

/-- R162, R170: a QUARANTINE payload. -/
def Ev.quarantine (payload : List Byte) (ev : Ev) : Ev :=
  match payload with
  | [bay, setting] => ev.forBay 0x11 bay (Ev.setQuarantine bay setting)
  | _ => ev.replyBadLength 0x11 payload

/-- QUARANTINE (R162). -/
def execQuarantine (payload : List Byte) (s : State) : Host.Outcome State Fault Refusal :=
  .next (onCommand (Ev.quarantine payload) s)

/-- R163: the assignment of a bay becomes none. -/
def Ev.clearAssignment (bay : Byte) (b : BayId) (ev : Ev) : Ev :=
  (ev.updLkc b fun x => { x with assignment := none }).reply 0x12 bay .done

/-- R163: a tag for a bay: the clear form, a valid tag, or BAD_VALUE (DEDUCED, log entry 18). -/
def Ev.setAssignment (bay : Byte) (tag : Tag) (b : BayId) (ev : Ev) : Ev :=
  if tag = noTag then ev.clearAssignment bay b
  else if tagOk tag then
    ((ev.updLkc b fun x => { x with assignment := some tag }).compareTag b 2).reply 0x12 bay .done
  else ev.reply 0x12 bay .badValue

/-- R163, R170: an ASSIGN payload. -/
def Ev.assign (payload : List Byte) (ev : Ev) : Ev :=
  match payload with
  | bay :: tag =>
    if tag.length = 12 then ev.forBay 0x12 bay (Ev.setAssignment bay tag) else ev.replyBadLength 0x12 payload
  | [] => ev.replyBadLength 0x12 payload

/-- ASSIGN (R163). -/
def execAssign (payload : List Byte) (s : State) : Host.Outcome State Fault Refusal :=
  .next (onCommand (Ev.assign payload) s)

/-- ASSIGN_CLEAR (R163). -/
def execAssignClear (bay : Byte) (s : State) : Host.Outcome State Fault Refusal :=
  .next (onCommand (Ev.forBay 0x12 bay (Ev.clearAssignment bay)) s)

/-! ### NEED and FIXED (R47, R48, R59) -/

/-- R58, R59: the urgency weight of a bay set, reported where the bay has a request, and the split run at a change. -/
def Ev.setWeight (bay weight : Byte) (b : BayId) (ev : Ev) : Ev :=
  let x := ev.s.bscBay b
  let w := clamp 1 15 weight.toNat
  let ev1 := (ev.updBsc b fun x => { x with weight := w }).needFigures b
  let changed := decide (x.weight ≠ w)
  let ev2 := { ev1 with report := ev1.report || changed, split := ev1.split || changed }
  ev2.reply 0x13 bay .done

/-- R59, R170: a NEED payload. -/
def Ev.needed (payload : List Byte) (ev : Ev) : Ev :=
  match payload with
  | [bay, weight] => ev.forBay 0x13 bay (Ev.setWeight bay weight)
  | _ => ev.replyBadLength 0x13 payload

/-- NEED (R59). -/
def execNeed (payload : List Byte) (s : State) : Host.Outcome State Fault Refusal :=
  .next (onCommand (Ev.needed payload) s)

/-- R48: fixed mode cleared on a bay. -/
def Ev.clearFixed (bay : Byte) (b : BayId) (ev : Ev) : Ev :=
  ((ev.updBsc b fun x => { x with fixed := none }).needFigures b).reply 0x14 bay .done

/-- R47: a bay that is not EMPTY put in fixed mode. -/
def Ev.setFixed (bay : Byte) (current : Nat) (b : BayId) (ev : Ev) : Ev :=
  if (ev.s.dlcBay b).dock = .empty then ev.reply 0x14 bay .emptyBay
  else ((ev.updBsc b fun x => { x with fixed := some (fixedCurrentOf current) }).needFigures b).reply 0x14 bay .done

/-- R47, R170, R186: a FIXED payload; a current of 0xFFFF is the TABLE form (DEDUCED, log entry 18). -/
def Ev.fix (payload : List Byte) (ev : Ev) : Ev :=
  match payload with
  | [bay, lo, hi] =>
    if wordAt lo hi = 0xFFFF then ev.forBay 0x14 bay (Ev.clearFixed bay)
    else ev.forBay 0x14 bay (Ev.setFixed bay (wordAt lo hi))
  | _ => ev.replyBadLength 0x14 payload

/-- FIXED (R47). -/
def execFixed (payload : List Byte) (s : State) : Host.Outcome State Fault Refusal :=
  .next (onCommand (Ev.fix payload) s)

/-- FIXED_TABLE (R48). -/
def execFixedTable (bay : Byte) (s : State) : Host.Outcome State Fault Refusal :=
  .next (onCommand (Ev.forBay 0x14 bay (Ev.clearFixed bay)) s)

/-! ### NOTICE_MASK (R177) -/

/-- R177, R170: a NOTICE_MASK payload. -/
def Ev.setMask (payload : List Byte) (ev : Ev) : Ev :=
  match payload with
  | [m] =>
    if m.toNat ≤ 7 then
      let ev1 := { ev with s := { ev.s with ntu := { ev.s.ntu with mask := m.toNat } }, handover := true }
      ev1.reply 0x15 0 .done
    else ev.reply 0x15 0 .badValue
  | _ => ev.reply 0x15 0 .badValue

/-- NOTICE_MASK (R177). -/
def execNoticeMask (payload : List Byte) (s : State) : Host.Outcome State Fault Refusal :=
  .next (onCommand (Ev.setMask payload) s)

/-! ### QUERY (R172) -/

/-- QUERY_STATION (R172): one frame. -/
def execQueryStation (_ : Byte) (s : State) : Host.Outcome State Fault Refusal :=
  .next (onQuery 1 0 1 0 (fun x => [stationValues x]) s)

/-- QUERY_BAY (R172): three frames, or BAD_BAY. -/
def execQueryBay (bay : Byte) (s : State) : Host.Outcome State Fault Refusal :=
  match bayOf bay with
  | none => .next (onCommand (fun ev => ev.reply 0x16 bay .badBay) s)
  | some b => .next (onQuery 2 bay 3 1 (fun x => bayAnswer x b) s)

/-- QUERY_PACKAGE (R172): one frame, BAD_VALUE or UNKNOWN_PACKAGE. -/
def execQueryPackage (id : Byte) (s : State) : Host.Outcome State Fault Refusal :=
  if id = 0 then .next (onCommand (fun ev => ev.reply 0x16 id .badValue) s)
  else
    match findPackage s.pks.table id.toNat with
    | none => .next (onCommand (fun ev => ev.reply 0x16 id .unknownPackage) s)
    | some p => .next (onQuery 3 id 1 0 (fun _ => [packageValues p]) s)

/-- QUERY_PEERS (R172): a frame per three entries, and one for an empty table. -/
def execQueryPeers (_ : Byte) (s : State) : Host.Outcome State Fault Refusal :=
  .next (onQuery 4 0 (peerFrames s.shu.peers) 0 peersAnswer s)

/-- R170 to R172: the answer to a QUERY of another subject or of the wrong length: its id field, 0 for STATION and
PEERS, and a free value where it has none (DESIGN CHOICE, log entry 8) (DEDUCED, log entry 19). -/
def Ev.badQuery (payload : List Byte) (ev : Ev) : Ev :=
  match payload with
  | subject :: rest =>
    if subject = 1 ∨ subject = 4 then ev.reply 0x16 0 .badValue else ev.replyBadLength 0x16 rest
  | [] => ev.replyBadLength 0x16 []

/-- QUERY_BAD_SUBJECT (R172). -/
def execQueryBadSubject (payload : List Byte) (s : State) : Host.Outcome State Fault Refusal :=
  .next (onCommand (Ev.badQuery payload) s)

/-! ### RESTART and unknown kinds (R170, R173) -/

/-- R173, R170: a RESTART is answered DONE with a REPLY that carries the restart mark. -/
def Ev.restart (payload : List Byte) (ev : Ev) : Ev :=
  match payload with
  | [] => { ev with s := placeFrame .reply [0x17, 0, byteOf ResultCode.done.code] true ev.s }
  | _ :: _ => ev.reply 0x17 0 .badValue

/-- RESTART (R173). -/
def execRestart (payload : List Byte) (s : State) : Host.Outcome State Fault Refusal :=
  .next (onCommand (Ev.restart payload) s)

/-- UNKNOWN_COMMAND (R4, R170): answered UNKNOWN_KIND with the kind code as received and 0, whatever its payload. -/
def execUnknownCommand (kind : Byte) (_ : List Byte) (s : State) : Host.Outcome State Fault Refusal :=
  .next (onCommand (fun ev => ev.reply kind 0 .unknownKind) s)

end Sys2Proof.Machine
end

