-- ==== Sys2Proof/Machine/Start.lean ====
section
/-! DEFINITION. The meanings of the reset and start-up rows: POWER_ON, RESET_INPUT, RESET_RELEASE,
EEPROM_ADDRESS_ATTEMPT and SUL_FINISHED (chapter 10). -/

namespace Sys2Proof.Machine

/-- POWER_ON (R180): reset with cause 1. -/
def execPowerOn (s : State) : Host.Outcome State Fault Refusal :=
  .next (resetWith .powerOn s)

/-- RESET_INPUT (R180): reset with cause 2. -/
def execResetInput (s : State) : Host.Outcome State Fault Refusal :=
  .next (resetWith .resetInput s)

/-- R180: the straps sampled: HALTED for id 0, the defaults for ROMEN 0, else the EEPROM is to be addressed. -/
def sampleStraps (straps : Straps) (s : State) : State :=
  let sul := { s.sul with straps := some straps, working := Settings.default }
  if straps.sid = 0 then
    { s with sul := { sul with phase := .finished }, cbi := { s.cbi with station := .halted } }
  else if straps.romen then { s with sul := { sul with phase := .addressing 0 s.now } }
  else { s with sul := { sul with phase := .ready, check := some .notRead } }

/-- RESET_RELEASE (R180): the straps are sampled once, at the release of reset (DEDUCED, log entry 16). -/
def execResetRelease (sid : StationId) (csel : BitVec 3) (romen : Bool) (s : State) :
    Host.Outcome State Fault Refusal :=
  if s.sul.phase = .held then .next (sampleStraps { sid := sid, csel := csel, romen := romen } s) else .next s

/-- R181: the time between two addressings, in ms. -/
def addressingGap : Nat := 10

/-- R181: an addressing after so many unanswered ones: the third unanswered one makes the EEPROM ABSENT, an answered
one leads to the judgement of the image. -/
def addressEeprom (attempts : Nat) (answer : Option (List Byte)) (s : State) : State :=
  match answer with
  | some bytes =>
    let check := judgeImage bytes
    { s with sul := { s.sul with
        phase := .ready
        check := some check
        image := if check = .good then bytes.take (wordFrom bytes 2) else [] } }
  | none =>
    if attempts + 1 < 3 then
      { s with sul := { s.sul with phase := .addressing (attempts + 1) (s.now + addressingGap) } }
    else { s with sul := { s.sul with phase := .ready, check := some .absent } }

/-- EEPROM_ADDRESS_ATTEMPT (R181): the next addressing, at its time. -/
def execEepromAddressAttempt (answer : Option (List Byte)) (s : State) : Host.Outcome State Fault Refusal :=
  match s.sul.phase with
  | .addressing attempts next => .next (addressEeprom attempts answer (s.upTo next))
  | .held => .next s
  | .ready => .next s
  | .finished => .next s

/-- SUL_FINISHED (R185): the handover, once the working set may be settled (DEDUCED, log entry 15). -/
def execSulFinished (doorsOpen boltsRetracted : Byte) (s : State) : Host.Outcome State Fault Refusal :=
  match s.sul.phase, s.sul.straps, s.sul.check with
  | .ready, some straps, some check => .next (handover straps check doorsOpen boltsRetracted s)
  | _, _, _ => .next s

end Sys2Proof.Machine
end

