-- ==== Sys2Proof/Machine/Store.lean ====
section
/-! DEFINITION. The Package Store (chapter 5): opening, loading, checking, listing and withdrawing packages, and the
meanings of PACKAGE_OPEN, PACKAGE_WITHDRAW and PACKAGE_DATA. -/

namespace Sys2Proof.Machine

/-! ### Opening (R92, R94 to R96) -/

/-- Table 5-2: whether an entry is settled. -/
def PackageState.settled (st : PackageState) : Bool :=
  !st.holdsBlocks

/-- R92: whether a run of blocks is free. -/
def runFree (t : List Package) (base length : Nat) : Bool :=
  t.all fun p => !p.state.holdsBlocks || decide (p.base + p.length ≤ base) || decide (base + length ≤ p.base)

/-- R92: first fit: the lowest base block of a free run that ends within the store. -/
def firstFit (t : List Package) (length : Nat) : Option Nat :=
  (List.range (129 - length)).find? fun base => runFree t base length

/-- R95: the settled entry with the lowest settle order number. -/
def oldestSettled (t : List Package) : Option Package :=
  (t.filter fun p => p.state.settled).foldl
    (fun best p =>
      match best with
      | none => some p
      | some q => if p.settle < q.settle then some p else some q)
    none

/-- R95: the table with room for an entry: without the id's own settled entry, as it stands where it has room, or
without the entry evicted. -/
def roomFor (t : List Package) (id : Nat) : List Package :=
  if (findPackage t id).isSome then freePackage t id
  else if t.length < 8 then t
  else
    match oldestSettled t with
    | some p => freePackage t p.id
    | none => t

/-- R96: the entry of an accepted PACKAGE_OPEN. -/
def openedPackage (id blocks base check : Nat) (targets : Byte) : Package where
  id := id
  state := .loading
  length := blocks
  base := base
  check := check
  targets := PerBay.ofFn fun b => if bayIn targets b then some { outcome := .pending, attempts := 0 } else none
  nextOffset := 0
  settle := 0

/-- R94, Table 5-4: tests 1 to 5, in order. -/
def openRefusal (t : List Package) (id length : Nat) (targets : Byte) : Option ResultCode :=
  if id = 0 then some .badValue
  else if length % 32 ≠ 0 ∨ length < 32 ∨ 1024 < length then some .badLength
  else if targets = 0 then some .badTarget
  else if (findPackage t id).any (fun p => p.state.holdsBlocks) then some .duplicate
  else if (findPackage t id).isNone ∧ 8 ≤ t.length ∧ (t.any fun p => p.state.settled) = false then some .noEntry
  else none

/-- R94 to R96: a PACKAGE_OPEN. -/
def Ev.openPackage (id : Byte) (length check : Nat) (targets : Byte) (ev : Ev) : Ev :=
  let t := ev.s.pks.table
  match openRefusal t id.toNat length targets with
  | some code => ev.reply 0x18 id code
  | none =>
    match firstFit t (length / 32) with
    | none => ev.reply 0x18 id .noRoom
    | some base =>
      (ev.setTable (roomFor t id.toNat ++ [openedPackage id.toNat (length / 32) base check targets])).reply 0x18 id
        .done

/-- R94, R170: a PACKAGE_OPEN payload. The check value, a CRC-16, comes high-order byte first (DEDUCED, log entry
36). -/
def Ev.packageOpen (payload : List Byte) (ev : Ev) : Ev :=
  match payload with
  | [id, l0, l1, targets, c0, c1] => ev.openPackage id (wordAt l0 l1) (wordAt c1 c0) targets
  | _ => ev.replyBadLength 0x18 payload

/-- PACKAGE_OPEN (R94). -/
def execPackageOpen (payload : List Byte) (s : State) : Host.Outcome State Fault Refusal :=
  .next (onCommand (Ev.packageOpen payload) s)

/-! ### Withdrawing (R103, R104) -/

/-- R103: an id removed from every list. -/
def Ev.unlistAll (id : Nat) (ev : Ev) : Ev :=
  BayId.all.foldl (Ev.unlist id) ev

/-- R104, R124: a suspended transfer of a withdrawn package on a bay ends ABORTED. -/
def Ev.abortWithdrawn (id : Nat) (ev : Ev) (b : BayId) : Ev :=
  match (ev.s.dlcBay b).transfer with
  | some t => if t.id = id then ev.abortSuspended b .withdrawn else ev
  | none => ev

/-- R103: the action on the entry that carries an id, and the reply. -/
def Ev.withdrawEntry (id : Byte) (p : Package) (ev : Ev) : Ev :=
  let n := id.toNat
  let freed : Ev := ev.setTable (freePackage ev.s.pks.table n)
  match p.state with
  | .loading => freed.reply 0x19 id .done
  | .complete => freed.reply 0x19 id .done
  | .loadFault => freed.reply 0x19 id .done
  | .checkFault => freed.reply 0x19 id .done
  | .withdrawing => ev.reply 0x19 id .accepted
  | .ready =>
    if inFlight ev.s n then
      let held := ev.setTable (updatePackage ev.s.pks.table n fun p => { p with state := .withdrawing })
      (BayId.all.foldl (Ev.abortWithdrawn n) (held.unlistAll n)).reply 0x19 id .accepted
    else (freed.unlistAll n).reply 0x19 id .done

/-- R103: a PACKAGE_WITHDRAW. -/
def Ev.withdraw (id : Byte) (ev : Ev) : Ev :=
  if id = 0 then ev.reply 0x19 id .badValue
  else
    match findPackage ev.s.pks.table id.toNat with
    | none => ev.reply 0x19 id .unknownPackage
    | some p => ev.withdrawEntry id p

/-- R103, R170: a PACKAGE_WITHDRAW payload. -/
def Ev.packageWithdraw (payload : List Byte) (ev : Ev) : Ev :=
  match payload with
  | [id] => ev.withdraw id
  | _ => ev.replyBadLength 0x19 payload

/-- PACKAGE_WITHDRAW (R103). -/
def execPackageWithdraw (payload : List Byte) (s : State) : Host.Outcome State Fault Refusal :=
  .next (onCommand (Ev.packageWithdraw payload) s)

/-! ### Loading, checking and listing (R97 to R100) -/

/-- R99: the bytes of a package in order of offset. -/
def packageBytes (m : List Host.Cell) (p : Package) : List Byte :=
  (List.range p.length).flatMap (storeBlock m p.base)

/-- R100: a READY package listed on one of its target bays, or the bay's outcome FULL. -/
def Ev.listOn (id : Nat) (ev : Ev) (b : BayId) : Ev :=
  match (findPackage ev.s.pks.table id).bind fun p => p.targets.get b with
  | none => ev
  | some t =>
    let l := (ev.s.pksBay b).list
    if l.length < 4 then ev.setList b (l ++ [id])
    else
      ev.setTable (updatePackage ev.s.pks.table id fun p =>
        { p with targets := p.targets.set b (some { t with outcome := .full }) })

/-- R99, R100: a check that passed: READY, listed, and COMPLETE when every target bay was FULL. -/
def Ev.makeReady (id : Nat) (ev : Ev) : Ev :=
  let ready := ev.setTable (updatePackage ev.s.pks.table id fun p => { p with state := .ready })
  (BayId.all.foldl (Ev.listOn id) ready).completePackage id

/-- R98, R99: an entry fails: its blocks are freed, it takes its settle order number, LOAD_FAULT is raised. -/
def Ev.failPackage (id : Nat) (st : PackageState) (ev : Ev) : Ev :=
  (ev.settlePackage id st).raiseNotice .loadFault 0 id

/-- R99: the check of a package whose last block has been stored. -/
def Ev.checkPackage (p : Package) (ev : Ev) : Ev :=
  if (crc16 (packageBytes ev.s.pks.store p)).toNat = p.check then ev.makeReady p.id else ev.failPackage p.id .checkFault

/-- R98: the block at the next load offset stored. -/
def Ev.storeNext (p : Package) (bytes : List Byte) (ev : Ev) : Ev :=
  let x := ev.s.pks
  let table := updatePackage x.table p.id fun q => { q with nextOffset := q.nextOffset + 1 }
  let ev1 := { ev with s := { ev.s with pks :=
    { x with store := storeWriteFrom x.store p.base p.nextOffset 0 bytes, table := table } } }
  if p.nextOffset + 1 = p.length then ev1.checkPackage p else ev1

/-- R97, R98: a block for an id at an offset. -/
def Ev.loadBlock (id offset : Nat) (bytes : List Byte) (ev : Ev) : Ev :=
  match findPackage ev.s.pks.table id with
  | none => ev
  | some p =>
    if p.state = .loading then
      if offset < p.nextOffset then ev
      else if offset = p.nextOffset then ev.storeNext p bytes
      else ev.failPackage id .loadFault
    else ev

/-- R97: a PACKAGE_DATA payload; one of another length is ignored. -/
def Ev.packageData (payload : List Byte) (ev : Ev) : Ev :=
  match payload with
  | id :: offset :: bytes => if bytes.length = 32 then ev.loadBlock id.toNat offset.toNat bytes else ev
  | _ => ev

/-- PACKAGE_DATA (R97, R98): no reply and no slot test. -/
def execPackageData (payload : List Byte) (s : State) : Host.Outcome State Fault Refusal :=
  .next (onFrame 0 (Ev.packageData payload) s)

end Sys2Proof.Machine
end

