-- ==== Sys2Proof/Machine/Dispatch.lean ====
section
/-! DEFINITION. The dispatch: one arm for each row of the table of operations and events. -/

namespace Sys2Proof.Machine

/-- The effect of a command on everything but the queue of waiting commands. -/
def exec (i : Instr) (s : State) : Host.Outcome State Fault Refusal :=
  match i with
  | .powerOn => Sys2Proof.Machine.execPowerOn s
  | .resetInput => Sys2Proof.Machine.execResetInput s
  | .resetRelease sid csel romen => Sys2Proof.Machine.execResetRelease sid csel romen s
  | .eepromAddressAttempt answer => Sys2Proof.Machine.execEepromAddressAttempt answer s
  | .sulFinished doorsOpen boltsRetracted => Sys2Proof.Machine.execSulFinished doorsOpen boltsRetracted s
  | .lineIdle => Sys2Proof.Machine.execLineIdle s
  | .headWon => Sys2Proof.Machine.execHeadWon s
  | .headLost => Sys2Proof.Machine.execHeadLost s
  | .frameTxComplete => Sys2Proof.Machine.execFrameTxComplete s
  | .postHeadMismatch => Sys2Proof.Machine.execPostHeadMismatch s
  | .mismatchClashConfirmed => Sys2Proof.Machine.execMismatchClashConfirmed s
  | .stuckLineStart => Sys2Proof.Machine.execStuckLineStart s
  | .stuckLineEnd => Sys2Proof.Machine.execStuckLineEnd s
  | .rxFrameDiscarded fault => Sys2Proof.Machine.execRxFrameDiscarded fault s
  | .frameSkipped dest => Sys2Proof.Machine.execFrameSkipped dest s
  | .ownIdFrame => Sys2Proof.Machine.execOwnIdFrame s
  | .ignoredFrame sender => Sys2Proof.Machine.execIgnoredFrame sender s
  | .claimArrival sender payload => Sys2Proof.Machine.execClaimArrival sender payload s
  | .limitArrival payload => Sys2Proof.Machine.execLimitArrival payload s
  | .releaseCheckout bay hold => Sys2Proof.Machine.execReleaseCheckout bay hold s
  | .releaseReturn bay hold => Sys2Proof.Machine.execReleaseReturn bay hold s
  | .releaseService bay hold => Sys2Proof.Machine.execReleaseService bay hold s
  | .quarantine payload => Sys2Proof.Machine.execQuarantine payload s
  | .assign payload => Sys2Proof.Machine.execAssign payload s
  | .assignClear bay => Sys2Proof.Machine.execAssignClear bay s
  | .need payload => Sys2Proof.Machine.execNeed payload s
  | .fixed payload => Sys2Proof.Machine.execFixed payload s
  | .fixedTable bay => Sys2Proof.Machine.execFixedTable bay s
  | .noticeMask payload => Sys2Proof.Machine.execNoticeMask payload s
  | .queryStation id => Sys2Proof.Machine.execQueryStation id s
  | .queryBay bay => Sys2Proof.Machine.execQueryBay bay s
  | .queryPackage id => Sys2Proof.Machine.execQueryPackage id s
  | .queryPeers id => Sys2Proof.Machine.execQueryPeers id s
  | .queryBadSubject payload => Sys2Proof.Machine.execQueryBadSubject payload s
  | .restart payload => Sys2Proof.Machine.execRestart payload s
  | .packageOpen payload => Sys2Proof.Machine.execPackageOpen payload s
  | .packageWithdraw payload => Sys2Proof.Machine.execPackageWithdraw payload s
  | .packageData payload => Sys2Proof.Machine.execPackageData payload s
  | .unknownCommand kind payload => Sys2Proof.Machine.execUnknownCommand kind payload s
  | .listenPeriodExpiry => Sys2Proof.Machine.execListenPeriodExpiry s
  | .isolationTimerExpiry => Sys2Proof.Machine.execIsolationTimerExpiry s
  | .refreshTimerExpiry => Sys2Proof.Machine.execRefreshTimerExpiry s
  | .peerEntryStale id => Sys2Proof.Machine.execPeerEntryStale id s
  | .raiseHoldExpiry => Sys2Proof.Machine.execRaiseHoldExpiry s
  | .shedWaitEnd bay => Sys2Proof.Machine.execShedWaitEnd bay s
  | .sensorSample reading1 reading2 => Sys2Proof.Machine.execSensorSample reading1 reading2 s
  | .supplyFault bay condition => Sys2Proof.Machine.execSupplyFault bay condition s
  | .presenceGained bay => Sys2Proof.Machine.execPresenceGained bay s
  | .presenceLost bay => Sys2Proof.Machine.execPresenceLost bay s
  | .pollTimerExpiry bay => Sys2Proof.Machine.execPollTimerExpiry bay s
  | .identRetryExpiry bay => Sys2Proof.Machine.execIdentRetryExpiry bay s
  | .replyWindowTimeout bay => Sys2Proof.Machine.execReplyWindowTimeout bay s
  | .badReply bay => Sys2Proof.Machine.execBadReply bay s
  | .quietWaitEnd bay => Sys2Proof.Machine.execQuietWaitEnd bay s
  | .quietWaitFail bay => Sys2Proof.Machine.execQuietWaitFail bay s
  | .identReply bay payload => Sys2Proof.Machine.execIdentReply bay payload s
  | .statusReply bay payload => Sys2Proof.Machine.execStatusReply bay payload s
  | .modeReply bay payload => Sys2Proof.Machine.execModeReply bay payload s
  | .pkgBeginReply bay payload => Sys2Proof.Machine.execPkgBeginReply bay payload s
  | .pkgBlockReply bay payload => Sys2Proof.Machine.execPkgBlockReply bay payload s
  | .pkgEndReply bay payload => Sys2Proof.Machine.execPkgEndReply bay payload s
  | .retryDelayExpiry bay => Sys2Proof.Machine.execRetryDelayExpiry bay s
  | .doorOpened bay => Sys2Proof.Machine.execDoorOpened bay s
  | .doorClosed bay => Sys2Proof.Machine.execDoorClosed bay s
  | .boltRetracted bay => Sys2Proof.Machine.execBoltRetracted bay s
  | .boltExtended bay => Sys2Proof.Machine.execBoltExtended bay s
  | .extendWaitExpiry bay => Sys2Proof.Machine.execExtendWaitExpiry bay s
  | .prepareEnd bay => Sys2Proof.Machine.execPrepareEnd bay s
  | .pulseEnd bay => Sys2Proof.Machine.execPulseEnd bay s
  | .holdWindowExpiry bay => Sys2Proof.Machine.execHoldWindowExpiry bay s
  | .cooldownEnd bay => Sys2Proof.Machine.execCooldownEnd bay s
  | .waitLimit bay => Sys2Proof.Machine.execWaitLimit bay s
  | .releaseBadKind payload => Sys2Proof.Machine.execReleaseBadKind payload s

end Sys2Proof.Machine
end

