-- ==== Sys2Proof/Machine/Ticks.lean ====
section
/-! DEFINITION. The part left to itself: the expiries, debounced changes and supply faults that are due while no command
waits, and the passing of a millisecond (DESIGN CHOICE, log entries 2 and 3). -/

namespace Sys2Proof.Machine

/-- Whether a timer is due at a time. -/
def isDue (now : Nat) : Option Nat → Bool
  | some t => decide (t ≤ now)
  | none => false

/-- A command, where its timer is due. -/
def dueList (now : Nat) (due : Option Nat) (c : Instr) : List Instr :=
  if isDue now due then [c] else []

/-- The timer of the driver of a bay that is due, by its phase. -/
def dueDriver (s : State) (b : BayId) : List Instr :=
  match driverAt? s b with
  | some (_, _, .prepare t, _) => dueList s.now (some t) (.prepareEnd b)
  | some (_, _, .pulse _ t _, _) => dueList s.now (some t) (.pulseEnd b)
  | some (_, _, .hold t, _) => dueList s.now (some t) (.holdWindowExpiry b)
  | none => []

/-- R74, R130: the debounced changes of the switches of a bay that have come about. -/
def dueSwitches (s : State) (b : BayId) : List Instr :=
  (if (s.dlcBay b).presenceSettled then
    [if (s.dlcBay b).dock = .empty then .presenceGained b else .presenceLost b] else []) ++
  (if doorDebounce ≤ (s.lkcBay b).doorRun then
    [if (s.lkcBay b).doorOpen then .doorClosed b else .doorOpened b] else []) ++
  if boltDebounce ≤ (s.lkcBay b).boltRun then
    [if (s.lkcBay b).boltRetracted then .boltExtended b else .boltRetracted b] else []

/-- R67: the conditions found on a bay, where they are judged. -/
def dueFaults (s : State) (b : BayId) : List Instr :=
  ([.overSetpoint, .overCurrent, .underVoltage].filter fun c =>
    faultJudged (s.bscBay b) c && (s.bscBay b).meter.found c).map (Instr.supplyFault b)

/-- The timers of a bay that are due, the changes of its switches and the faults of its supply. -/
def dueBay (s : State) (b : BayId) : List Instr :=
  dueFaults s b ++ dueSwitches s b ++ dueList s.now ((s.bscBay b).rise.map Rise.shedUntil) (.shedWaitEnd b) ++
    dueList s.now (s.dlcBay b).pollUntil (.pollTimerExpiry b) ++
    dueList s.now (s.dlcBay b).identUntil (.identRetryExpiry b) ++
    dueList s.now (s.pksBay b).retryUntil (.retryDelayExpiry b) ++
    dueList s.now (s.lkcBay b).extendUntil (.extendWaitExpiry b) ++
    dueDriver s b ++
    dueList s.now (s.lkcBay b).cooldownUntil (.cooldownEnd b) ++
    dueList s.now (limitDue s.lkc b) (.waitLimit b)

/-- The timers of the peer entries that are due. -/
def duePeers (s : State) : List Instr :=
  s.shu.peers.flatMap fun p => dueList s.now (staleDue s p.id) (.peerEntryStale p.id)

/-- The expiries that are due (DESIGN CHOICE, log entry 3): none while the blocks do not run. -/
def dueCommands (s : State) : List Instr :=
  if s.runs then
    dueList s.now s.cbi.listenUntil .listenPeriodExpiry ++
      dueList s.now s.cbi.isolationUntil .isolationTimerExpiry ++
      dueList s.now s.shu.refresh.due .refreshTimerExpiry ++
      dueList s.now (raiseDue s.shu) .raiseHoldExpiry ++
      duePeers s ++ BayId.all.flatMap (dueBay s)
  else []

/-- One of several expiries that are due at one moment: the manual does not say which is taken first (DESIGN CHOICE,
log entry 3). -/
def chooseDue (now : Nat) (c : Instr) : List Instr → Instr
  | [] => c
  | rest => (c :: rest).getD (Config.firstDue now % (rest.length + 1)) c

/-- R66, R67, R74, R130: the readings of a bay's output and switches in the millisecond that ends at the clock's reading
are free values (DESIGN CHOICE, log entries 7 and 33). -/
def takeReadings (s : State) : State :=
  { s with
    bsc := { s.bsc with bays := PerBay.ofFn fun b =>
      (s.bscBay b).measure (Config.outputCurrent b s.now) (Config.outputVoltage b s.now) }
    dlc := { s.dlc with bays := PerBay.ofFn fun b => (s.dlcBay b).readPresence (Config.presenceSwitch b s.now) }
    lkc := { s.lkc with bays := PerBay.ofFn fun b =>
      (s.lkcBay b).readSwitches (Config.doorSwitch b s.now) (Config.boltSwitch b s.now) } }

/-- A millisecond passes: the clock goes on, and while the blocks run the outputs and the switches are read (DESIGN
CHOICE, log entry 2). -/
def tick (s : State) : State :=
  let t := { s with now := s.now + 1 }
  if s.runs then takeReadings t else t

/-- The queue is empty: an expiry that is due comes about, else a millisecond passes (DESIGN CHOICE, log entries 2
and 3). -/
def idle (s : State) : Host.Outcome State Fault Refusal :=
  match dueCommands s with
  | [] => .next (tick s)
  | c :: rest => exec (chooseDue s.now c rest) s

end Sys2Proof.Machine
end

