-- ==== Sys2Proof/Machine/Front.lean ====
section
/-! DEFINITION. The line level: characters and bits of the cart bus (R1, R2), the receive checker and filter (R3 to
R8) and the characters of a dock line reply (R71, R72). These functions say which command of the table the events at the
lines amount to; the commands themselves carry their result. -/

namespace Sys2Proof.Machine

/-! ### Cart bus line (R1, R2) -/

/-- R2: the 11 bits of a character in the order sent, true for recessive: start, eight data bits, mark, stop. The
head is marked and sends its data bits most significant first, every other character least significant first. -/
def charBits (head : Bool) (b : Byte) : List Bool :=
  let lsbFirst := (List.range 8).map b.getLsbD
  false :: (if head then lsbFirst.reverse else lsbFirst) ++ [head, true]

/-- A received character: its data bits, its mark bit, and whether its stop bit read dominant. -/
structure RxChar where
  /-- The data bits. -/
  data : Byte
  /-- The mark bit: the character is a head. -/
  mark : Bool
  /-- The stop bit read dominant. -/
  broken : Bool
  deriving DecidableEq, Repr

/-- The byte of eight bits, least significant first. -/
def byteOfBits (bits : List Bool) : Byte :=
  byteOf (bits.foldr (fun bit n => 2 * n + if bit then 1 else 0) 0)

/-- R2: the character that 11 line bits carry; none when they do not begin with a start bit. -/
def readChar : List Bool → Option RxChar
  | [start, d0, d1, d2, d3, d4, d5, d6, d7, mark, stop] =>
    if start then none
    else
      let bits := [d0, d1, d2, d3, d4, d5, d6, d7]
      some { data := byteOfBits (if mark then bits.reverse else bits), mark := mark, broken := !stop }
  | _ => none

/-- R1, R12: the bit-times of 1 ms, for which a line may be dominant without being stuck. -/
def dominantBits : Nat := 250

/-- R1, R12: what the CBI counts on the line, bit-time by bit-time (DESIGN CHOICE, log entry 17). The watch begins anew,
with nothing counted, as the station leaves STARTING (DESIGN CHOICE, log entry 38). -/
structure LineWatch where
  /-- Recessive bit-times since the last dominant bit. -/
  recessive : Nat
  /-- Dominant bit-times without a break. -/
  dominant : Nat
  /-- The line is stuck. -/
  stuck : Bool
  /-- The dominant bit-times since a post-head mismatch whose cause is open, the mismatch's own among them (R12). -/
  mismatch : Option Nat
  deriving DecidableEq, Repr

/-- R1: the watch as the station leaves STARTING: nothing counted (DESIGN CHOICE, log entry 38). -/
def LineWatch.begin : LineWatch where
  recessive := 0
  dominant := 0
  stuck := false
  mismatch := none

/-- R12: a further dominant bit-time since a mismatch: after more than 1 ms the mismatch is put down to the stuck line
(DESIGN CHOICE, log entry 39). -/
def mismatchLasts (n : Nat) : Option Nat :=
  if n + 1 ≤ dominantBits then some (n + 1) else none

/-- R1, R12: one bit-time read, true for recessive, and the events it completes: idle after 12 recessive bit-times, stuck
after more than 250 dominant ones, the end of the stuck condition at the first recessive bit, and a clash where that bit
comes within 1 ms of a mismatch. An idle is given once, at its twelfth bit-time (DESIGN CHOICE, log entry 37), and a start
of the stuck condition once (log entry 38). -/
def LineWatch.bit (w : LineWatch) (recessive : Bool) : LineWatch × List Instr :=
  if recessive then
    ({ recessive := w.recessive + 1, dominant := 0, stuck := false, mismatch := none },
      (if w.mismatch.isSome then [.mismatchClashConfirmed] else []) ++
        if w.stuck then [.stuckLineEnd] else if w.recessive + 1 = 12 then [.lineIdle] else [])
  else
    ({ recessive := 0, dominant := w.dominant + 1, stuck := w.stuck || decide (dominantBits < w.dominant + 1),
       mismatch := w.mismatch.bind mismatchLasts },
      if !w.stuck && decide (dominantBits < w.dominant + 1) then [.stuckLineStart] else [])

/-- R12: one bit-time read that differs from the bit sent after the head has been won: a post-head mismatch, from which
its 1 ms is counted. -/
def LineWatch.mismatchBit (w : LineWatch) (recessive : Bool) : LineWatch × List Instr :=
  let (next, events) := { w with mismatch := some 0 }.bit recessive
  (next, .postHeadMismatch :: events)

/-- R1, R12: the watch after so many dominant bit-times in a row. -/
def LineWatch.dominantFor (w : LineWatch) : Nat → LineWatch
  | 0 => w
  | n + 1 => ((w.dominantFor n).bit false).1

/-! ### Receive checker and filter (R3 to R8) -/

/-- What becomes of the characters of a frame (DESIGN CHOICE, log entry 17). -/
inductive RxVerdict where
  /-- No frame in progress: the characters are ignored and not counted (R5). -/
  | ignored
  /-- Discarded and counted (R7). -/
  | discarded (fault : RxFault)
  /-- Skipped by the filter (R6). -/
  | skipped (dest : Byte)
  /-- A valid frame (R7). -/
  | valid (frame : BusFrame)
  deriving DecidableEq, Repr

/-- The next character of a frame in progress, if it is neither marked nor broken nor missing (R5). -/
def nextChar : List RxChar → Option (Byte × List RxChar)
  | [] => none
  | c :: cs => if c.mark || c.broken then none else some (c.data, cs)

/-- The next so many characters of a frame in progress (R5). -/
def nextChars : Nat → List RxChar → Option (List Byte × List RxChar)
  | 0, cs => some ([], cs)
  | n + 1, cs =>
    match nextChar cs with
    | none => none
    | some (b, rest) =>
      match nextChars n rest with
      | none => none
      | some (bs, rest') => some (b :: bs, rest')

/-- R4: whether the priority and route of a head suit a kind; an unlisted kind suits priority 1 and route 00. -/
def kindSuits (kind : Byte) (priority : Nat) (toAll : Bool) : Bool :=
  (kindRule kind).getD (1, false) == (priority, toAll)

/-- R3 to R7 from the kind character on: what the head and the destination were is given. -/
def receiveKind (head : Byte) (dest : Option Byte) (cs : List RxChar) : RxVerdict :=
  match nextChar cs with
  | none => .discarded .truncated
  | some (kind, cs1) =>
    if !kindSuits kind (head.toNat / 64) dest.isNone then .discarded .mismatched
    else
      match nextChar cs1 with
      | none => .discarded .truncated
      | some (len, cs2) =>
        if 40 < len.toNat then .discarded .badLength
        else
          match nextChars len.toNat cs2 with
          | none => .discarded .truncated
          | some (payload, cs3) =>
            match nextChars 2 cs3 with
            | none => .discarded .truncated
            | some (crc, _) =>
              if crc16Bytes (head :: dest.toList ++ [kind, len] ++ payload) = crc then
                .valid
                  { sender := BitVec.ofNat 4 (head.toNat / 4), dest := dest, kind := kind, payload := payload }
              else .discarded .badCrc

/-- R3 to R7: the verdict on the characters from one marked character to the next, or to idle. -/
def receiveFrame (own : StationId) : List RxChar → RxVerdict
  | [] => .ignored
  | h :: cs =>
    if !h.mark then .ignored
    else if h.broken then .discarded .truncated
    else if h.data.toNat % 4 = 1 || h.data.toNat % 4 = 2 then .discarded .badRoute
    else if h.data.toNat % 4 = 3 then receiveKind h.data none cs
    else
      match nextChar cs with
      | none => .discarded .truncated
      | some (dest, rest) =>
        if dest.toNat = own.toNat then receiveKind h.data (some dest) rest else .skipped dest

/-- R170, Table 11-2: the row of a command, by its kind code and payload. -/
def panelCommand (kind : Byte) (payload : List Byte) : Instr :=
  if kind = 0x10 then
    match payload with
    | [bay, code, hold] =>
      match ReleaseKind.ofCode? code with
      | some .checkout => .releaseCheckout bay hold
      | some .returning => .releaseReturn bay hold
      | some .service => .releaseService bay hold
      | none => .releaseBadKind payload
    | _ => .releaseBadKind payload
  else if kind = 0x11 then .quarantine payload
  else if kind = 0x12 then
    match payload with
    | bay :: tag => if tag = noTag then .assignClear bay else .assign payload
    | [] => .assign payload
  else if kind = 0x13 then .need payload
  else if kind = 0x14 then
    match payload with
    | [bay, lo, hi] => if wordAt lo hi = 0xFFFF then .fixedTable bay else .fixed payload
    | _ => .fixed payload
  else if kind = 0x15 then .noticeMask payload
  else if kind = 0x16 then
    match payload with
    | [subject, id] =>
      if subject = 1 then .queryStation id
      else if subject = 2 then .queryBay id
      else if subject = 3 then .queryPackage id
      else if subject = 4 then .queryPeers id
      else .queryBadSubject payload
    | _ => .queryBadSubject payload
  else if kind = 0x17 then .restart payload
  else if kind = 0x18 then .packageOpen payload
  else if kind = 0x19 then .packageWithdraw payload
  else .unknownCommand kind payload

/-- R8: the row of a valid frame, by its sender and kind. -/
def frameCommand (own : StationId) (f : BusFrame) : Instr :=
  if f.sender = own then .ownIdFrame
  else if f.kind = 0x01 then
    if f.sender = 0 then .ignoredFrame f.sender else .claimArrival f.sender f.payload
  else if f.kind = 0x20 || f.kind = 0x21 || f.kind = 0x22 then .ignoredFrame f.sender
  else if f.sender ≠ 0 then .ignoredFrame f.sender
  else if f.kind = 0x02 then .limitArrival f.payload
  else if f.kind = 0x30 then .packageData f.payload
  else panelCommand f.kind f.payload

/-- R3 to R8: the command that the characters of one frame amount to; none when they are ignored. -/
def rxCommand (own : StationId) (cs : List RxChar) : Option Instr :=
  match receiveFrame own cs with
  | .ignored => none
  | .discarded fault => some (.rxFrameDiscarded fault)
  | .skipped dest => some (.frameSkipped dest)
  | .valid f => some (frameCommand own f)

/-- R5: the characters between two idles, cut at each marked character, which always begins a new frame. -/
def cutFrames : List RxChar → List (List RxChar)
  | [] => []
  | c :: cs =>
    match cutFrames cs with
    | [] => [[c]]
    | frame :: frames => if frame.any RxChar.mark then [c] :: frame :: frames else (c :: frame) :: frames

/-- R3 to R8: the commands that the characters between two idles amount to, in order. -/
def rxCommands (own : StationId) (cs : List RxChar) : List Instr :=
  (cutFrames cs).filterMap (rxCommand own)

/-- The characters a receiver reads when the data bytes of a frame are sent unharmed (R2). -/
def sentChars : List Byte → List RxChar
  | [] => []
  | h :: bs => ⟨h, true, false⟩ :: bs.map fun b => ⟨b, false, false⟩

/-! ### Dock line replies (R71, R72) -/

/-- A character of a dock line reply: its data, whether its stop bit was wrong, and whether it came more than two
character-times after the one before. -/
structure DockChar where
  /-- The data bits. -/
  data : Byte
  /-- The stop bit read at the wrong level. -/
  broken : Bool
  /-- The gap before it was longer than two character-times. -/
  late : Bool
  deriving DecidableEq, Repr

/-- R71: the 10 bits of a dock line character in the order sent, true for the idle level: start, eight data bits, the
least significant first, stop (PRESUMED, log entry 35, for the levels of start and stop). -/
def dockCharBits (b : Byte) : List Bool :=
  false :: (List.range 8).map b.getLsbD ++ [true]

/-- R71: the character that 10 bits of a dock line carry, after a gap longer than two character-times or not; none when
they do not begin with a start bit. It is broken when its stop bit reads at the wrong level. -/
def readDockChar (late : Bool) : List Bool → Option DockChar
  | [start, d0, d1, d2, d3, d4, d5, d6, d7, stop] =>
    if start then none
    else some { data := byteOfBits [d0, d1, d2, d3, d4, d5, d6, d7], broken := !stop, late := late }
  | _ => none

/-- R72: the payload of a reply whose lead, kind, length, gaps, stop bits and CRC-8 hold; none for a bad reply. -/
def replyPayload (r : Request) (cs : List DockChar) : Option (List Byte) :=
  let whole := cs.take (r.replyLength + 4)
  let bytes := whole.map DockChar.data
  let payload := (bytes.drop 3).take r.replyLength
  if whole.any DockChar.broken || (whole.drop 1).any DockChar.late then none
  else if bytes = dockMessage (r.code + 0x80) payload && payload.length = r.replyLength then some payload
  else none

/-- R72: the command that the characters of a reply on a bay's dock line amount to. -/
def replyCommand (bay : BayId) (r : Request) (cs : List DockChar) : Instr :=
  match replyPayload r cs with
  | none => .badReply bay
  | some payload =>
    match r with
    | .ident => .identReply bay payload
    | .status => .statusReply bay payload
    | .mode _ => .modeReply bay payload
    | .pkgBegin .. => .pkgBeginReply bay payload
    | .pkgBlock .. => .pkgBlockReply bay payload
    | .pkgEnd _ => .pkgEndReply bay payload

end Sys2Proof.Machine
end

