-- ==== Sys2Proof/Safety.lean ====
section
/-! DEFINITION. What holds of a safe run: the invariants of the blocks, and the words in which the claims are put. -/

namespace Sys2Proof

/-! ### What a command concerns -/

/-- The bay that a command's bay byte names, when it names that bay. -/
def namesBay (payload : List Byte) (b : BayId) : Bool :=
  match payload with
  | x :: _ => decide (Machine.bayOf x = some b)
  | [] => false

/-- Whether a command concerns a bay by itself: an event at the bay, a command of the cart panel for the bay, or a row
that sets every bay: a reset, the handover, or the completion of a frame that may carry the restart mark. -/
def Instr.concerns (c : Instr) (b : BayId) : Bool :=
  match c with
  | .powerOn => true
  | .resetInput => true
  | .frameTxComplete => true
  | .sulFinished _ _ => true
  | .resetRelease _ _ _ => false
  | .eepromAddressAttempt _ => false
  | .lineIdle => false
  | .headWon => false
  | .headLost => false
  | .postHeadMismatch => false
  | .mismatchClashConfirmed => false
  | .stuckLineStart => false
  | .stuckLineEnd => false
  | .rxFrameDiscarded _ => false
  | .frameSkipped _ => false
  | .ownIdFrame => false
  | .ignoredFrame _ => false
  | .claimArrival _ _ => false
  | .limitArrival _ => false
  | .releaseCheckout bay _ => decide (Machine.bayOf bay = some b)
  | .releaseReturn bay _ => decide (Machine.bayOf bay = some b)
  | .releaseService bay _ => decide (Machine.bayOf bay = some b)
  | .quarantine payload => namesBay payload b
  | .assign payload => namesBay payload b
  | .assignClear bay => decide (Machine.bayOf bay = some b)
  | .need payload => namesBay payload b
  | .fixed payload => namesBay payload b
  | .fixedTable bay => decide (Machine.bayOf bay = some b)
  | .noticeMask _ => false
  | .queryStation _ => false
  | .queryBay _ => false
  | .queryPackage _ => false
  | .queryPeers _ => false
  | .queryBadSubject _ => false
  | .restart _ => false
  | .packageOpen _ => false
  | .packageWithdraw _ => false
  | .packageData _ => false
  | .unknownCommand _ _ => false
  | .listenPeriodExpiry => false
  | .isolationTimerExpiry => false
  | .refreshTimerExpiry => false
  | .peerEntryStale _ => false
  | .raiseHoldExpiry => false
  | .shedWaitEnd bay => decide (bay = b)
  | .sensorSample _ _ => false
  | .supplyFault bay _ => decide (bay = b)
  | .presenceGained bay => decide (bay = b)
  | .presenceLost bay => decide (bay = b)
  | .pollTimerExpiry bay => decide (bay = b)
  | .identRetryExpiry bay => decide (bay = b)
  | .replyWindowTimeout bay => decide (bay = b)
  | .badReply bay => decide (bay = b)
  | .quietWaitEnd bay => decide (bay = b)
  | .quietWaitFail bay => decide (bay = b)
  | .identReply bay _ => decide (bay = b)
  | .statusReply bay _ => decide (bay = b)
  | .modeReply bay _ => decide (bay = b)
  | .pkgBeginReply bay _ => decide (bay = b)
  | .pkgBlockReply bay _ => decide (bay = b)
  | .pkgEndReply bay _ => decide (bay = b)
  | .retryDelayExpiry bay => decide (bay = b)
  | .doorOpened bay => decide (bay = b)
  | .doorClosed bay => decide (bay = b)
  | .boltRetracted bay => decide (bay = b)
  | .boltExtended bay => decide (bay = b)
  | .extendWaitExpiry bay => decide (bay = b)
  | .prepareEnd bay => decide (bay = b)
  | .pulseEnd bay => decide (bay = b)
  | .holdWindowExpiry bay => decide (bay = b)
  | .cooldownEnd bay => decide (bay = b)
  | .waitLimit bay => decide (bay = b)
  | .releaseBadKind payload => namesBay payload b

/-- Whether a command is a row of the table that resets the part, or may: POWER_ON, RESET_INPUT, and the completion of
a frame, which may carry the restart mark (R180). -/
def Instr.mayReset (c : Instr) : Prop :=
  c = .powerOn ∨ c = .resetInput ∨ c = .frameTxComplete

end Sys2Proof

namespace Sys2Proof.Machine

/-! ### Words of the claims -/

/-- The states in which the station is in LISTEN, ACTIVE or CLASHED: it runs, and a frame heard does not change its
state. -/
def State.steady (s : State) : Prop :=
  s.cbi.station = .listen ∨ s.cbi.station = .active ∨ s.cbi.station = .clashed

/-- R14: the state after a valid frame from another station in LISTEN, ACTIVE or CLASHED: the isolation timer, where
it runs, begins its full duration. -/
def State.heard (s : State) : State :=
  if s.cbi.station = .clashed then s
  else { s with cbi := { s.cbi with isolationUntil := some (s.now + 4 * s.settings.refresh) } }

/-- R171: a REPLY to a command, placed at the event, waits in the transmit queue. -/
def Replied (s t : State) (kind id : Byte) (code : ResultCode) : Prop :=
  ({ kind := .reply, payload := [kind, id, byteOf code.code], marked := false, age := s.cbi.nextAge } : TxFrame) ∈
    t.cbi.queue

/-- R171: the state after a command in LISTEN, ACTIVE or CLASHED that is answered and changes nothing else. -/
def State.answered (s : State) (kind id : Byte) (code : ResultCode) : State :=
  placeFrame .reply [kind, id, byteOf code.code] false s.heard

/-- R10: the room that a command answered by one frame needs: a slot for the frame, and one more. -/
def State.hasRoom (s : State) : Prop :=
  2 ≤ freeSlots s

/-- R175: an event hands a notice to the Notice Unit: it is one of the notices that are entered at the event. -/
def HandsOver (s t : State) (kind : NoticeKind) (bay detail : Nat) : Prop :=
  ∃ notices : List Notice, ⟨kind, bay, detail⟩ ∈ notices ∧
    t.ntu = enterNotices s.settings.levels t.now notices s.ntu

/-- R178: no notice is handed over to the cart bus: none is above the mask level. -/
def State.masksAll (s : State) : Prop :=
  (∀ p ∈ s.ntu.entries, p.level ≤ s.ntu.mask) ∧ ∀ n ∈ s.settings.levels, n ≤ s.ntu.mask

/-- The hold origin of a raise that an event starts, by what the event leaves (R35, log entry 21): in ACTIVE with
N_cfg of 2 or more the own CLAIM that waits, or else the one on the line; else the event itself. -/
def State.raiseOrigin (t : State) : RaiseOrigin :=
  if t.cbi.station = .active ∧ 2 ≤ t.settings.nCfg then
    if ∃ f ∈ t.cbi.queue, f.kind = .claim then .queuedClaim
    else if ∃ f ∈ t.cbi.onLine, f.kind = .claim then .claimOnLine
    else .holdUntil (t.now + t.settings.raiseHold)
  else .holdUntil (t.now + t.settings.raiseHold)

/-- Whether an expiry, a debounced change or a supply fault comes about by itself at a state whose queue is empty:
each timer that is due, each switch that has read its new level for its debounce time, each condition of R67 that has
held for its time. The moments are the model's (log entries 2 and 3), the times the manual's. -/
def Comes (s : State) (c : Instr) : Prop :=
  (c = .listenPeriodExpiry ∧ ∃ t ∈ s.cbi.listenUntil, t ≤ s.now) ∨
  (c = .isolationTimerExpiry ∧ ∃ t ∈ s.cbi.isolationUntil, t ≤ s.now) ∨
  (c = .refreshTimerExpiry ∧ ∃ t, s.shu.refresh = .running t ∧ t ≤ s.now) ∨
  (c = .raiseHoldExpiry ∧ ∃ target t, s.shu.raise = some ⟨target, .holdUntil t⟩ ∧ t ≤ s.now) ∨
  (∃ id p, c = .peerEntryStale id ∧ s.shu.peers.find? (fun p => p.id = id) = some p ∧ p.state = .live ∧
    p.heardAt + 3 * s.settings.refresh ≤ s.now) ∨
  ∃ b : BayId,
    (c = .shedWaitEnd b ∧ ∃ r ∈ (s.bscBay b).rise, r.shedUntil ≤ s.now) ∨
    (c = .pollTimerExpiry b ∧ ∃ t ∈ (s.dlcBay b).pollUntil, t ≤ s.now) ∨
    (c = .identRetryExpiry b ∧ ∃ t ∈ (s.dlcBay b).identUntil, t ≤ s.now) ∨
    (c = .retryDelayExpiry b ∧ ∃ t ∈ (s.pksBay b).retryUntil, t ≤ s.now) ∨
    (c = .extendWaitExpiry b ∧ ∃ t ∈ (s.lkcBay b).extendUntil, t ≤ s.now) ∨
    (c = .cooldownEnd b ∧ ∃ t ∈ (s.lkcBay b).cooldownUntil, t ≤ s.now) ∨
    (c = .waitLimit b ∧ ∃ e ∈ s.lkc.entry? b, e.limitFallen = false ∧ e.made + 10000 ≤ s.now) ∨
    (c = .prepareEnd b ∧ ∃ i e t o, driverAt? s b = some (i, e, .prepare t, o) ∧ t ≤ s.now) ∨
    (c = .pulseEnd b ∧ ∃ i e f t n o, driverAt? s b = some (i, e, .pulse f t n, o) ∧ t ≤ s.now) ∨
    (c = .holdWindowExpiry b ∧ ∃ i e t o, driverAt? s b = some (i, e, .hold t, o) ∧ t ≤ s.now) ∨
    (c = .presenceGained b ∧ (s.dlcBay b).dock = .empty ∧ ∃ n ∈ (s.dlcBay b).presenceRun, 50 ≤ n) ∨
    (c = .presenceLost b ∧ (s.dlcBay b).dock ≠ .empty ∧ ∃ n ∈ (s.dlcBay b).presenceRun, 50 ≤ n) ∨
    (c = .doorOpened b ∧ (s.lkcBay b).doorOpen = false ∧ 20 ≤ (s.lkcBay b).doorRun) ∨
    (c = .doorClosed b ∧ (s.lkcBay b).doorOpen = true ∧ 20 ≤ (s.lkcBay b).doorRun) ∨
    (c = .boltRetracted b ∧ (s.lkcBay b).boltRetracted = false ∧ 2 ≤ (s.lkcBay b).boltRun) ∨
    (c = .boltExtended b ∧ (s.lkcBay b).boltRetracted = true ∧ 2 ≤ (s.lkcBay b).boltRun) ∨
    ((s.bscBay b).supply = .run ∧
      ((c = .supplyFault b .overSetpoint ∧ 200 ≤ (s.bscBay b).meter.overFor) ∨
        (c = .supplyFault b .overCurrent ∧ (s.bscBay b).meter.surge = true) ∨
        (c = .supplyFault b .underVoltage ∧ 200 ≤ (s.bscBay b).meter.underFor ∧
          0 < (s.bscBay b).applied.current)))

/-- R18: the figures differ from those last placed by as much as calls for a CLAIM: D or Lapp by 4 W or more; F, W or
the trimmed flag by any amount. -/
def Shu.news (u : Shu) (l : ClaimFigures) : Prop :=
  l.d + 4 ≤ u.d ∨ u.d + 4 ≤ l.d ∨ l.a + 4 ≤ u.lapp ∨ u.lapp + 4 ≤ l.a ∨ u.f ≠ l.f ∨ u.w ≠ l.w ∨ u.trimmed ≠ l.trimmed

/-- R80, R81: a request for an item is met: the item waits or is served, or the request is deferred. -/
def State.asksFor (t : State) (b : BayId) (k : ItemKind) : Prop :=
  t.dlc.stands b k = true ∨ ∃ x ∈ t.dlc.deferred, x.bay = b ∧ x.kind = k

/-- No release waits, and no package is listed on a bay: a change of power has no further consequence than the split
and the setpoints. -/
def State.onlyCharging (s : State) : Prop :=
  s.lkc.queue = [] ∧ ∀ b ∈ BayId.all, (s.pksBay b).list = []

/-- R134, R138: a release of a bay stands, in the queue or on a driver, with its kind, hold window in ms, pulse length
in ms and time made. -/
def State.standsRelease (s : State) (b : BayId) (kind : ReleaseKind) (hold pulse made : Nat) : Prop :=
  ∃ e : ReleaseEntry,
    (e ∈ s.lkc.queue ∨ ∃ phase opened, s.lkc.driver1 = .assigned e phase opened ∨ s.lkc.driver2 = .assigned e phase opened) ∧
      e.bay = b ∧ e.kind = kind ∧ e.holdWindow = hold ∧ e.pulse = pulse ∧ e.made = made

/-- What a bay keeps but for the consequences of power: all that only its own events and commands change. -/
def SameBay (s t : State) (b : BayId) : Prop :=
  (t.bscBay b).supply = (s.bscBay b).supply ∧ (t.bscBay b).fixed = (s.bscBay b).fixed ∧
  (t.bscBay b).weight = (s.bscBay b).weight ∧
  (t.dlcBay b).dock = (s.dlcBay b).dock ∧ (t.dlcBay b).record = (s.dlcBay b).record ∧
  (t.dlcBay b).lastTablet = (s.dlcBay b).lastTablet ∧ (t.dlcBay b).misses = (s.dlcBay b).misses ∧
  (t.dlcBay b).pollUntil = (s.dlcBay b).pollUntil ∧ (t.dlcBay b).identUntil = (s.dlcBay b).identUntil ∧
  (t.pksBay b).retryUntil = (s.pksBay b).retryUntil ∧
  (t.lkcBay b).doorOpen = (s.lkcBay b).doorOpen ∧ (t.lkcBay b).boltRetracted = (s.lkcBay b).boltRetracted ∧
  (t.lkcBay b).extendUntil = (s.lkcBay b).extendUntil ∧ (t.lkcBay b).cooldownUntil = (s.lkcBay b).cooldownUntil ∧
  (t.lkcBay b).jams = (s.lkcBay b).jams ∧ (t.lkcBay b).lastRetract = (s.lkcBay b).lastRetract ∧
  (t.lkcBay b).quarantine = (s.lkcBay b).quarantine ∧ (t.lkcBay b).assignment = (s.lkcBay b).assignment

/-! ### Start-up and halt (R13, R180) -/

/-- R13, R74, R180: in STARTING and HALTED every block stands at its values after reset, STARTING lasts until the
Start-up Loader has finished, and in every other state each presence switch is debounced. -/
def StartOk (s : State) : Prop :=
  (s.sul.phase ≠ .finished ↔ s.cbi.station = .starting) ∧
  (s.cbi.station = .starting ∨ s.cbi.station = .halted →
    s.cbi = { State.reset.cbi with station := s.cbi.station } ∧ s.shu = State.reset.shu ∧ s.bsc = State.reset.bsc ∧
      s.dlc = State.reset.dlc ∧ s.pks = State.reset.pks ∧ s.lkc = State.reset.lkc ∧ s.ntu = State.reset.ntu ∧
      s.settings = Settings.default) ∧
  (s.runs = true → ∀ b ∈ BayId.all, (s.dlcBay b).presenceRun.isSome = true)

/-! ### Cart Bus Interface (R7, R9, R10) -/

/-- R9: one frame stands before another: a lower priority value, or the same and an older one. -/
def TxFrame.before (f g : TxFrame) : Prop :=
  f.kind.priority < g.kind.priority ∨ (f.kind.priority = g.kind.priority ∧ f.age < g.age)

/-- R9, R10: the transmit queue: at most 8 frames in order, at most one CLAIM and two NOTICE frames, and a slot free
for a CLAIM unless one waits. -/
def TxQueueOk (s : State) : Prop :=
  s.cbi.queue.length ≤ 8 ∧
  (s.cbi.queue.filter fun f => f.kind = .claim).length ≤ 1 ∧
  noticeFrames s ≤ 2 ∧
  (claimWaits s = true ∨ s.cbi.queue.length < 8) ∧
  s.cbi.queue.Pairwise TxFrame.before ∧
  (s.cbi.queue.map TxFrame.age).Nodup ∧
  ∀ f ∈ s.cbi.queue, f.age < s.cbi.nextAge

/-! ### Share Unit (R20, R25, R35, R36, R38, R39) -/

/-- R25, R31, R36, R38, R39: the applied limit is at most the share, the share at most the effective ceiling, and that
at most the selected ceiling and the panel limit; a pending raise aims at the share, above the applied limit; in
LISTEN the applied limit is 0 and no raise is pending. -/
def CeilingOk (s : State) : Prop :=
  s.shu.lapp ≤ s.shu.share ∧ s.shu.share ≤ s.shu.cEff ∧ s.shu.cEff ≤ s.settings.cSel ∧
  (∀ l ∈ s.shu.panelLimit, s.shu.cEff ≤ l) ∧
  (∀ r ∈ s.shu.raise, r.target = s.shu.share ∧ s.shu.lapp < s.shu.share) ∧
  (s.cbi.station = .listen → s.shu.raise = none ∧ s.shu.lapp = 0)

/-- R16: the own demand, floor and weight are those composed of the bay figures, the urgency weights of the bays whose
request is above 0, and the lock floor of 20 W while a release waits or a driver is in use. -/
def FiguresOk (s : State) : Prop :=
  let bays := s.bsc.bays.toList
  let lock := if s.lkc.queue = [] ∧ s.lkc.driver1 = .free ∧ s.lkc.driver2 = .free then 0 else 20
  let weights := ((bays.filter fun b => 0 < b.request).map BscBay.weight).sum
  s.shu.d = min 212 ((bays.map BscBay.demand).sum + lock) ∧
  s.shu.f = (bays.map BscBay.floor).sum + lock ∧
  s.shu.w = if weights = 0 then 1 else min 255 weights

/-- R20: the figures of a peer entry are clamped as they are stored. -/
def Peer.inBounds (p : Peer) : Prop :=
  p.d ≤ 212 ∧ p.f ≤ p.d ∧ 1 ≤ p.w ∧ p.w ≤ 255 ∧ p.a ≤ 212 ∧ 100 ≤ p.cSel ∧ p.cSel ≤ 2400 ∧ 1 ≤ p.nCfg ∧ p.nCfg ≤ 15

/-- R20, R43: the peer table: in ascending order of id, no entry for station 0 or for the station itself, every figure
in its bounds. -/
def PeersOk (s : State) : Prop :=
  s.shu.peers.Pairwise (fun p q => p.id < q.id) ∧
  ∀ p ∈ s.shu.peers, p.id ≠ 0 ∧ p.id ≠ s.cbi.ownId ∧ p.inBounds

/-! ### Bay Supply Controller (R60 to R67) -/

/-- R60 to R62: the grants of the bays fit in the bay budget: the applied limit less the lock power in use. -/
def GrantsOk (s : State) : Prop :=
  (s.bsc.bays.toList.map BscBay.grant).sum ≤ bayBudget s

/-! ### Dock Line Controller (R75 to R88) -/

/-- R63 to R67, R75 to R78, R85, R88: a bay: IDLE exactly while it is EMPTY, its output off and no rise pending unless
it is in RUN; a tablet record and a running poll timer exactly in ACTIVE and ASLEEP; an IDENT retry timer only in
SEATED; at most three misses. -/
def BayOk (x : BscBay) (d : DlcBay) : Prop :=
  (d.dock = .empty ↔ x.supply = .idle) ∧
  (x.supply ≠ .run → x.applied.current = 0 ∧ x.rise = none) ∧
  (d.record.isSome = true ↔ d.dock = .active ∨ d.dock = .asleep) ∧
  (d.pollUntil.isSome = true ↔ d.dock = .active ∨ d.dock = .asleep) ∧
  (d.identUntil.isSome = true → d.dock = .seated) ∧
  d.misses ≤ 3

/-- Every bay is in order (`BayOk`). -/
def BaysOk (s : State) : Prop :=
  ∀ b ∈ BayId.all, BayOk (s.bscBay b) (s.dlcBay b)

/-- What an engine serves, by bay and kind. -/
def Engine.work : Engine → List (BayId × ItemKind)
  | .idle => []
  | .busy x _ => [(x.bay, x.kind)]

/-- R80, R83: the kind of item that a request belongs to: package requests to PACKAGE items. -/
def Request.itemKind : Request → ItemKind
  | .ident => .ident
  | .status => .status
  | .mode free => if free then .modeFree else .modeCart
  | .pkgBegin .. => .package
  | .pkgBlock .. => .package
  | .pkgEnd _ => .package

/-- R83, R111: whether the exchange of an engine, if it has one, is of its item's kind. -/
def Engine.exchangeFits : Engine → Bool
  | .idle => true
  | .busy item x => decide (x.request.itemKind = item.kind)

/-- R80 to R83: the work queue: at most 16 items in order of class, each bay and kind once among the waiting and the
served, the two engines on different bays; class 0 requests are deferred only while the queue is full without a
STATUS, each once and none that stands; and the exchange of an engine is of its item's kind. R111, R118, R123, R127:
a transfer in flight that is not suspended has its PACKAGE item served by an engine. -/
def WorkQueueOk (s : State) : Prop :=
  s.dlc.queue.length ≤ 16 ∧
  ((s.dlc.queue.map fun x => (x.bay, x.kind)) ++ s.dlc.engine1.work ++ s.dlc.engine2.work).Nodup ∧
  (s.dlc.engine1 = .idle ∨ s.dlc.engine1.bay? ≠ s.dlc.engine2.bay?) ∧
  s.dlc.queue.Pairwise (fun x y => x.kind.cls ≤ y.kind.cls) ∧
  s.dlc.deferred.Nodup ∧
  (∀ x ∈ s.dlc.deferred, x.kind.cls = 0 ∧ s.dlc.stands x.bay x.kind = false) ∧
  (s.dlc.deferred ≠ [] → s.dlc.queue.length = 16 ∧ ∀ x ∈ s.dlc.queue, x.kind ≠ .status) ∧
  s.dlc.engine1.exchangeFits = true ∧ s.dlc.engine2.exchangeFits = true ∧
  ∀ b ∈ BayId.all, ∀ r ∈ (s.dlcBay b).transfer, r.suspended = false →
    (b, ItemKind.package) ∈ s.dlc.engine1.work ++ s.dlc.engine2.work

/-! ### Package Store (R92 to R104) -/

/-- R92: the store's bytes stand in their one canonical form. -/
def StoreOk (s : State) : Prop :=
  storeWf s.pks.store = true

/-- R92: two entries hold no block in common. -/
def Package.apart (p q : Package) : Prop :=
  p.state.holdsBlocks = true → q.state.holdsBlocks = true → p.base + p.length ≤ q.base ∨ q.base + q.length ≤ p.base

/-- R92, R93, R98: the package table: at most 8 entries of different ids from 1 to 255, 1 to 32 blocks long, whose
runs lie in the 128 blocks and are disjoint; a LOADING entry still misses a block. -/
def PackagesOk (s : State) : Prop :=
  s.pks.table.length ≤ 8 ∧
  (s.pks.table.map Package.id).Nodup ∧
  (∀ p ∈ s.pks.table, 1 ≤ p.id ∧ p.id ≤ 255 ∧ 1 ≤ p.length ∧ p.length ≤ 32 ∧
    (p.state.holdsBlocks = true → p.base + p.length ≤ 128) ∧ (p.state = .loading → p.nextOffset < p.length)) ∧
  s.pks.table.Pairwise Package.apart

/-- Whether a package is PENDING on a bay. -/
def Package.pendingOn (p : Package) (b : BayId) : Prop :=
  ∃ t ∈ p.targets.get b, t.outcome = .pending

/-- R101, R104, R118: a bay's list holds, each once and at most four, the READY packages PENDING on the bay; a
transfer in flight is of a READY or WITHDRAWING package PENDING on the bay; a LOADING package is PENDING on all its
targets. -/
def ListsOk (s : State) : Prop :=
  (∀ b ∈ BayId.all, (s.pksBay b).list.length ≤ 4 ∧ (s.pksBay b).list.Nodup ∧
    (∀ n ∈ (s.pksBay b).list, ∃ p ∈ s.pks.table, p.id = n ∧ p.state = .ready ∧ p.pendingOn b) ∧
    (∀ p ∈ s.pks.table, p.state = .ready → p.pendingOn b → p.id ∈ (s.pksBay b).list) ∧
    (∀ t ∈ (s.dlcBay b).transfer,
      ∃ p ∈ s.pks.table, p.id = t.id ∧ (p.state = .ready ∨ p.state = .withdrawing) ∧ p.pendingOn b)) ∧
  ∀ p ∈ s.pks.table, p.state = .loading → ∀ b ∈ BayId.all, ∀ t ∈ p.targets.get b, t.outcome = .pending

/-! ### Lock Controller (R132 to R149) -/

/-- R138 to R145: the lock state that a driver's phase stands for. -/
def DriverPhase.lock : DriverPhase → LockState
  | .prepare _ => .prepare
  | .pulse .. => .pulse
  | .hold _ => .hold

/-- R138: the lock states in which a driver is assigned to the bay. -/
def LockState.driven : LockState → Bool
  | .prepare => true | .pulse => true | .hold => true
  | .locked => false | .queued => false | .opened => false | .cooldown => false | .lockFault => false
  | .unsecured => false

/-- R132, R138, R142: a bay is in PREPARE, PULSE or HOLD exactly while a driver of that phase is assigned to it, no
entry waits for it in LOCKED or OPEN and one does in QUEUED, and COOLDOWN runs exactly in COOLDOWN, with its entry
queued. -/
def LockBayOk (s : State) (b : BayId) : Prop :=
  (∀ x ∈ driverAt? s b, (s.lkcBay b).lock = some x.2.2.1.lock) ∧
  (∀ l ∈ (s.lkcBay b).lock, l.driven = true → (s.lkc.driverOf? b).isSome = true) ∧
  ((s.lkcBay b).lock = some .locked ∨ (s.lkcBay b).lock = some .opened → s.lkc.hasEntry b = false) ∧
  ((s.lkcBay b).lock = some .queued ∨ (s.lkcBay b).lock = some .cooldown → s.lkc.hasEntry b = true) ∧
  ((s.lkcBay b).cooldownUntil.isSome = true ↔ (s.lkcBay b).lock = some .cooldown)

/-- R134, R138: each bay has at most one release entry, in the queue or on a driver, and every bay's lock state agrees
with them (`LockBayOk`). So at most two bays are in PREPARE, PULSE or HOLD. -/
def ReleasesOk (s : State) : Prop :=
  (s.lkc.queue.map ReleaseEntry.bay ++ s.lkc.driver1.bay?.toList ++ s.lkc.driver2.bay?.toList).Nodup ∧
  ∀ b ∈ BayId.all, LockBayOk s b

/-! ### Notice Unit (R174 to R177) -/

/-- R174, R175, R177: the pending set: at most 16 entries, one for each pair of kind and bay, each with a bay up to 8,
a level from 1 and a count from 1 to 15; the mask level is at most 7. -/
def NoticesOk (s : State) : Prop :=
  s.ntu.entries.length ≤ 16 ∧
  (s.ntu.entries.map fun p => (p.kind, p.bay)).Nodup ∧
  (∀ p ∈ s.ntu.entries, p.bay ≤ 8 ∧ 1 ≤ p.level ∧ 1 ≤ p.count ∧ p.count ≤ 15) ∧
  s.ntu.mask ≤ 7

/-! ### Settings (Table 10-3, R183) and counts -/

/-- Table 10-3: a profile entry holds at most 2700 mA, a multiple of 50 mA. -/
def ProfileEntry.inBounds (e : ProfileEntry) : Prop :=
  e.current ≤ 2700 ∧ e.current % 50 = 0

/-- Table 10-3, R182, R183: every setting lies in its range, T_lo below T_hi. -/
def Settings.inBounds (x : Settings) : Prop :=
  (1 ≤ x.nCfg ∧ x.nCfg ≤ 15) ∧ (200 ≤ x.refresh ∧ x.refresh ≤ 2000) ∧ (100 ≤ x.raiseHold ∧ x.raiseHold ≤ 1000) ∧
  x.ceilingIndex ≤ 7 ∧ x.ceilings.length = 8 ∧ (∀ c ∈ x.ceilings, 100 ≤ c ∧ c ≤ 2400) ∧
  (100 ≤ x.cSel ∧ x.cSel ≤ 2400) ∧ x.classes ∈ [1, 2, 4, 8] ∧
  x.profile.length = 64 ∧ (∀ e ∈ x.profile, e.inBounds) ∧ (1 ≤ x.defaultWeight ∧ x.defaultWeight ≤ 15) ∧
  x.checkoutMin ≤ 100 ∧ x.provisionMin ≤ 100 ∧ (-19 ≤ x.tHi ∧ x.tHi ≤ 120) ∧ (-20 ≤ x.tLo ∧ x.tLo < x.tHi) ∧
  (-20 ≤ x.tCut ∧ x.tCut ≤ 120) ∧ x.pulseCount ≤ 99 ∧ (2 ≤ x.holdWindow ∧ x.holdWindow ≤ 20) ∧
  x.levels.length = 29 ∧ ∀ n ∈ x.levels, n ≤ 7

/-- R182, R183: the settings the blocks work by lie in their ranges. -/
def SettingsOk (s : State) : Prop :=
  s.settings.inBounds

/-- R7, R47, R49, R50, R59, R142: the counts that stop at a bound: the receive error count, the hot and cool counts,
the jam counts; the urgency weights and fixed currents in their ranges; and the last good readings. R66, R67, R74,
R130: no run of a debounce or of a fault condition passes its time, and at most the last 1000 ms of power are held. -/
def CountsOk (s : State) : Prop :=
  s.cbi.rxErrors ≤ 255 ∧ s.bsc.hot ≤ 8 ∧ s.bsc.cool ≤ 40 ∧
  (∀ x ∈ [s.bsc.sensor1, s.bsc.sensor2], ∀ t ∈ x.last, goodReading t = true) ∧
  ∀ b ∈ BayId.all, (s.lkcBay b).jams ≤ 2 ∧ 1 ≤ (s.bscBay b).weight ∧ (s.bscBay b).weight ≤ 15 ∧
    (∀ c ∈ (s.bscBay b).fixed, c ≤ 2700 ∧ c % 50 = 0) ∧
    (s.bscBay b).meter.powers.length ≤ 1000 ∧ (s.bscBay b).meter.overFor ≤ 200 ∧ (s.bscBay b).meter.underFor ≤ 200 ∧
    (∀ n ∈ (s.dlcBay b).presenceRun, n ≤ 50) ∧ (s.lkcBay b).doorRun ≤ 20 ∧ (s.lkcBay b).boltRun ≤ 2

end Sys2Proof.Machine
end

