-- ==== Sys2Proof/WellFormed.lean ====
section
/-! DEFINITION. The well-formed commands: the payloads that a frame or a dock line message can carry, and the payloads
that fall to the row and not to another one. -/

namespace Sys2Proof

/-- R3: a frame carries at most 40 payload bytes. -/
def framePayload (p : List Byte) : Bool :=
  decide (p.length ≤ 40)

/-- Table 11-7: a dock line reply carries the payload length of its kind. -/
def replyPayloadLength (n : Nat) (p : List Byte) : Bool :=
  decide (p.length = n)

/-- R4, Table 11-2: the kind codes of the frames listed. -/
def listedKind (k : Byte) : Bool :=
  let n := k.toNat
  decide (n = 1) || decide (n = 2) || (decide (0x10 ≤ n) && decide (n ≤ 0x19)) || decide (n = 0x20) ||
    decide (n = 0x21) || decide (n = 0x22) || decide (n = 0x30)

/-- R163, R186: an ASSIGN payload that is not the clear form. -/
def assignPayload : List Byte → Bool
  | _ :: tag => decide (tag ≠ List.replicate 12 0) && decide (tag.length ≤ 39)
  | [] => true

/-- R48, R186: a FIXED payload that is not the TABLE form. -/
def fixedPayload : List Byte → Bool
  | [_, lo, hi] => !(decide (lo = 0xFF) && decide (hi = 0xFF))
  | p => framePayload p

/-- R154: a RELEASE payload of another kind code or of the wrong length. -/
def badReleasePayload : List Byte → Bool
  | [_, kind, _] => decide (kind ≠ 1) && decide (kind ≠ 2) && decide (kind ≠ 3)
  | p => framePayload p

/-- R172: a QUERY payload of another subject code or of the wrong length. -/
def badQueryPayload : List Byte → Bool
  | [subject, _] => decide (subject ≠ 1) && decide (subject ≠ 2) && decide (subject ≠ 3) && decide (subject ≠ 4)
  | p => framePayload p

/-- R181: an EEPROM that answers gives at most the 2048 bytes of the largest image. -/
def eepromAnswer : Option (List Byte) → Bool
  | none => true
  | some bytes => decide (bytes.length ≤ 2048)

/-- The well-formed commands. -/
def Instr.wf : Instr → Bool
  | .powerOn => true
  | .resetInput => true
  | .resetRelease _ _ _ => true
  | .eepromAddressAttempt answer => eepromAnswer answer
  | .sulFinished _ _ => true
  | .lineIdle => true
  | .headWon => true
  | .headLost => true
  | .frameTxComplete => true
  | .postHeadMismatch => true
  | .mismatchClashConfirmed => true
  | .stuckLineStart => true
  | .stuckLineEnd => true
  | .rxFrameDiscarded _ => true
  | .frameSkipped _ => true
  | .ownIdFrame => true
  | .ignoredFrame _ => true
  | .claimArrival sender payload => decide (sender ≠ 0) && framePayload payload
  | .limitArrival payload => framePayload payload
  | .releaseCheckout _ _ => true
  | .releaseReturn _ _ => true
  | .releaseService _ _ => true
  | .quarantine payload => framePayload payload
  | .assign payload => assignPayload payload
  | .assignClear _ => true
  | .need payload => framePayload payload
  | .fixed payload => fixedPayload payload
  | .fixedTable _ => true
  | .noticeMask payload => framePayload payload
  | .queryStation _ => true
  | .queryBay _ => true
  | .queryPackage _ => true
  | .queryPeers _ => true
  | .queryBadSubject payload => badQueryPayload payload
  | .restart payload => framePayload payload
  | .packageOpen payload => framePayload payload
  | .packageWithdraw payload => framePayload payload
  | .packageData payload => framePayload payload
  | .unknownCommand kind payload => !listedKind kind && framePayload payload
  | .listenPeriodExpiry => true
  | .isolationTimerExpiry => true
  | .refreshTimerExpiry => true
  | .peerEntryStale id => decide (id ≠ 0)
  | .raiseHoldExpiry => true
  | .shedWaitEnd _ => true
  | .sensorSample _ _ => true
  | .supplyFault _ _ => true
  | .presenceGained _ => true
  | .presenceLost _ => true
  | .pollTimerExpiry _ => true
  | .identRetryExpiry _ => true
  | .replyWindowTimeout _ => true
  | .badReply _ => true
  | .quietWaitEnd _ => true
  | .quietWaitFail _ => true
  | .identReply _ payload => replyPayloadLength 16 payload
  | .statusReply _ payload => replyPayloadLength 3 payload
  | .modeReply _ payload => replyPayloadLength 1 payload
  | .pkgBeginReply _ payload => replyPayloadLength 1 payload
  | .pkgBlockReply _ payload => replyPayloadLength 2 payload
  | .pkgEndReply _ payload => replyPayloadLength 1 payload
  | .retryDelayExpiry _ => true
  | .doorOpened _ => true
  | .doorClosed _ => true
  | .boltRetracted _ => true
  | .boltExtended _ => true
  | .extendWaitExpiry _ => true
  | .prepareEnd _ => true
  | .pulseEnd _ => true
  | .holdWindowExpiry _ => true
  | .cooldownEnd _ => true
  | .waitLimit _ => true
  | .releaseBadKind payload => badReleasePayload payload

end Sys2Proof
end

