-- ==== Sys2Proof/Certificates/Slice0/Obligations.lean ====
section
/-! DEFINITION. The statements for the provers. -/

open Sys2Proof Sys2Proof.Machine

/-! ### The step -/

/-- One step runs the command at the front of the queue on the queue's rest. The queue of commands, first in, first
out, is the model's (log entry 1). -/
def Obligations.StepRunsFront : Prop :=
  ∀ (c : Instr) (rest : List Instr) (s : State), s.pending = c :: rest → step s = exec c { s with pending := rest }

/-- The model's choice (log entries 2, 3, 7 and 33): on an empty queue one of the expiries, debounced changes and
supply faults that come about is run, the ones of `Comes` while the blocks run and none else; where there is none a
millisecond passes. While the blocks run, each output is then measured and each switch read, at free values: the
powers of the last 1000 ms, the ms for which the conditions of R67 have held in RUN, and the runs of the debounces;
nothing else changes. -/
def Obligations.IdleStep : Prop :=
  ∀ s : State, s.pending = [] →
    (∀ c, c ∈ dueCommands s ↔ s.runs = true ∧ Comes s c) ∧
    (dueCommands s ≠ [] → ∃ c ∈ dueCommands s, step s = exec c s) ∧
    (s.runs = false → step s = .next { s with now := s.now + 1 }) ∧
    (s.runs = true → dueCommands s = [] → ∃ t, step s = .next t ∧
      t = { s with
        now := s.now + 1
        bsc := { s.bsc with bays := PerBay.ofFn fun b => { s.bscBay b with meter := (t.bscBay b).meter } }
        dlc := { s.dlc with bays := PerBay.ofFn fun b =>
          { s.dlcBay b with presenceRun := (s.dlcBay b).presenceRun.map fun n =>
            if Config.presenceSwitch b t.now = decide ((s.dlcBay b).dock ≠ .empty) then 0 else n + 1 } }
        lkc := { s.lkc with bays := PerBay.ofFn fun b =>
          { s.lkcBay b with
            doorRun := if Config.doorSwitch b t.now = (s.lkcBay b).doorOpen then 0 else (s.lkcBay b).doorRun + 1
            boltRun :=
              if Config.boltSwitch b t.now = (s.lkcBay b).boltRetracted then 0 else (s.lkcBay b).boltRun + 1 } } } ∧
      ∀ b : BayId,
        let x := s.bscBay b
        let m := (t.bscBay b).meter
        let volts := if x.applied.nineVolt then 9 else 5
        m.current = Config.outputCurrent b t.now ∧ m.voltage = Config.outputVoltage b t.now ∧
        m.powers = ((if x.applied.current = 0 then 0 else m.current * m.voltage) :: x.meter.powers).take 1000 ∧
        (x.supply = .run →
          m.overFor = (if x.applied.current + 300 < m.current then x.meter.overFor + 1 else 0) ∧
          (m.surge = true ↔ x.meter.surge = true ∨ 3000 < m.current) ∧
          m.underFor =
            if 0 < x.applied.current ∧ m.voltage * 100 < 80 * (1000 * volts) then x.meter.underFor + 1 else 0) ∧
        (x.supply ≠ .run → m.overFor = 0 ∧ m.surge = false ∧ m.underFor = 0))

/-! ### Reset -/

/-- The values the manual's tables give after reset (R13; Tables 2-4, 3-7, 4-5, 5-5, 6-3, 7-4, 9-5; R162 to R164). -/
def Obligations.ResetValues : Prop :=
  let s := core.reset
  (s.cbi.station = .starting ∧ s.cbi.queue = [] ∧ s.cbi.onLine = none ∧ s.cbi.rxErrors = 0 ∧ s.cbi.listenUntil = none ∧
    s.cbi.isolationUntil = none ∧ s.cbi.stuck = false) ∧
  (s.shu.peers = [] ∧ s.shu.panelLimit = none ∧ s.shu.share = 0 ∧ s.shu.lapp = 0 ∧ s.shu.floorGrant = 0 ∧
    s.shu.raise = none ∧ s.shu.trimmed = false ∧ s.shu.refresh = .stopped ∧ s.shu.lastPlaced = none ∧ s.shu.d = 0 ∧
    s.shu.f = 0 ∧ s.shu.w = 1) ∧
  (s.bsc.derate = .l0 ∧ s.bsc.hot = 0 ∧ s.bsc.cool = 0 ∧ s.bsc.sensor1 = ⟨none, false⟩ ∧ s.bsc.sensor2 = ⟨none, false⟩) ∧
  (s.dlc.queue = [] ∧ s.dlc.deferred = [] ∧ s.dlc.engine1 = .idle ∧ s.dlc.engine2 = .idle) ∧
  s.pks.table = [] ∧
  (s.lkc.queue = [] ∧ s.lkc.driver1 = .free ∧ s.lkc.driver2 = .free ∧ s.lkc.power = 0 ∧ s.lkc.floorPower = 0) ∧
  (s.ntu.entries = [] ∧ s.ntu.mask = 0 ∧ s.ntu.overflow = false) ∧
  ∀ b : BayId,
    ((s.bscBay b).supply = .idle ∧ (s.bscBay b).fixed = none ∧ (s.bscBay b).request = 0 ∧ (s.bscBay b).floor = 0 ∧
      (s.bscBay b).demand = 0 ∧ (s.bscBay b).grant = 0 ∧ (s.bscBay b).applied.current = 0 ∧ (s.bscBay b).rise = none ∧
      (s.bscBay b).measuredPower s.now = 0) ∧
    ((s.dlcBay b).dock = .empty ∧ (s.dlcBay b).presenceRun = none ∧ (s.dlcBay b).record = none ∧ (s.dlcBay b).lastTablet = none ∧
      (s.dlcBay b).misses = 0 ∧ (s.dlcBay b).pollUntil = none ∧ (s.dlcBay b).identUntil = none ∧
      (s.dlcBay b).transfer = none ∧ (s.dlcBay b).lastEnd = none) ∧
    ((s.pksBay b).list = [] ∧ (s.pksBay b).retryUntil = none) ∧
    ((s.lkcBay b).lock = none ∧ (s.lkcBay b).jams = 0 ∧ (s.lkcBay b).lastRetract = none ∧
      (s.lkcBay b).extendUntil = none ∧ (s.lkcBay b).quarantine = false ∧ (s.lkcBay b).assignment = none ∧
      (s.lkcBay b).release = none)

/-- Every invariant holds right after reset. -/
def Obligations.InvariantsAtReset : Prop :=
  let s := core.reset
  StartOk s ∧ TxQueueOk s ∧ CeilingOk s ∧ PeersOk s ∧ GrantsOk s ∧ BaysOk s ∧ WorkQueueOk s ∧ StoreOk s ∧ PackagesOk s ∧
    ListsOk s ∧ ReleasesOk s ∧ NoticesOk s ∧ SettingsOk s ∧ CountsOk s

/-! ### Invariants that every step keeps -/

/-- R13, R39, R74, R90, R107, R153, R180: in STARTING and HALTED every block but the Start-up Loader stands at its
values after reset, of which the manual leaves some open (log entry 4), STARTING lasts until the loader has finished,
and in every other state the presence switches are debounced. That the stuck condition stays not present there,
whatever the line does, is the model's choice (log entry 38). -/
def Obligations.StepKeepsStart : Prop :=
  ∀ s t : State, StartOk s → step s = .next t → StartOk t

/-- R9, R10: the transmit queue keeps its order, its bounds and a slot for a CLAIM. -/
def Obligations.StepKeepsTxQueue : Prop :=
  ∀ s t : State, TxQueueOk s → step s = .next t → TxQueueOk t

/-- R25, R31, R36, R38, R39: Lapp stays within the share, the share within C_eff, C_eff within C_sel. -/
def Obligations.StepKeepsCeiling : Prop :=
  ∀ s t : State, StartOk s → CeilingOk s → step s = .next t → CeilingOk t

/-- R20, R43: the peer table stays in order, with clamped figures and without station 0 or the station itself. -/
def Obligations.StepKeepsPeers : Prop :=
  ∀ s t : State, StartOk s → PeersOk s → step s = .next t → PeersOk t

/-- R60 to R62: the grants of the bays add up to at most Lapp less the lock power in use, or to 0 where the lock power
in use is above Lapp. -/
def Obligations.StepKeepsGrants : Prop :=
  ∀ s t : State, GrantsOk s → step s = .next t → GrantsOk t

/-- R63 to R67, R75 to R78, R85, R88: the supply state, the output, the record and the timers of a bay agree with its
dock state. -/
def Obligations.StepKeepsBays : Prop :=
  ∀ s t : State, BaysOk s → step s = .next t → BaysOk t

/-- R80 to R83: the work queue and the engines stay in order, and the exchange of an engine stays of its item's kind.
R111, R118, R123, R127: a transfer in flight that is not suspended stays with an engine that serves its PACKAGE item.
-/
def Obligations.StepKeepsWorkQueue : Prop :=
  ∀ s t : State, WorkQueueOk s → step s = .next t → WorkQueueOk t

/-- R92: the addresses of the store's bytes rise and lie in the 4096 bytes. That a byte nothing has written reads as
0x00 and is not listed, and so the canonical form, is the model's choice (log entry 5). -/
def Obligations.StepKeepsStore : Prop :=
  ∀ s t : State, StoreOk s → step s = .next t → StoreOk t

/-- R92, R93, R95, R98: the package table keeps its bounds and its runs apart. -/
def Obligations.StepKeepsPackages : Prop :=
  ∀ s t : State, PackagesOk s → step s = .next t → PackagesOk t

/-- R101, R104, R118: the package lists hold just the READY packages PENDING on the bay, and the transfers in flight
are of such packages or WITHDRAWING ones. -/
def Obligations.StepKeepsLists : Prop :=
  ∀ s t : State, PackagesOk s → ListsOk s → step s = .next t → ListsOk t

/-- R132, R134, R138, R142: each bay has at most one release entry, and the drivers agree with the lock states. -/
def Obligations.StepKeepsReleases : Prop :=
  ∀ s t : State, StartOk s → ReleasesOk s → step s = .next t → ReleasesOk t

/-- R174, R175, R177: the pending notice set keeps its bounds, one entry for each pair of kind and bay. -/
def Obligations.StepKeepsNotices : Prop :=
  ∀ s t : State, NoticesOk s → step s = .next t → NoticesOk t

/-- R182, R183, Table 10-3: whatever image is read, the settings stay in their ranges. R7, R47, R49, R50, R59, R66,
R67, R74, R130, R142: so do the counts, weights, fixed currents, readings and runs. -/
def Obligations.StepKeepsRanges : Prop :=
  ∀ s t : State, SettingsOk s → step s = .next t → SettingsOk t ∧ (CountsOk s → CountsOk t)

/-! ### Start-up (chapter 10) -/

/-- R180, R13: POWER_ON and RESET_INPUT reset every block and record the cause, and RESET_RELEASE samples the straps:
HALTED for id 0, the defaults without an image for ROMEN 0, else the EEPROM is addressed. A further release of reset
changes nothing. That the settings return to their defaults and the clock and the queue go on is the model's choice
(log entries 2 and 4). -/
def Obligations.ResetRows : Prop :=
  (∀ s : State,
    exec .powerOn s = .next { State.reset with
      pending := s.pending, now := s.now, free := s.free, sul := { State.reset.sul with cause := .powerOn } } ∧
    exec .resetInput s = .next { State.reset with
      pending := s.pending, now := s.now, free := s.free, sul := { State.reset.sul with cause := .resetInput } }) ∧
  ∀ (s : State) (sid : StationId) (csel : BitVec 3) (romen : Bool),
    (s.sul.phase ≠ .held → exec (.resetRelease sid csel romen) s = .next s) ∧
    (s.sul.phase = .held → sid = 0 → ∃ t, exec (.resetRelease sid csel romen) s = .next t ∧
      t = { s with
        cbi := { s.cbi with station := .halted }
        sul := { s.sul with straps := some ⟨sid, csel, romen⟩, working := Settings.default, phase := .finished } }) ∧
    (s.sul.phase = .held → sid ≠ 0 → romen = true → exec (.resetRelease sid csel romen) s = .next { s with
      sul := { s.sul with
        straps := some ⟨sid, csel, romen⟩, working := Settings.default, phase := .addressing 0 s.now } }) ∧
    (s.sul.phase = .held → sid ≠ 0 → romen = false → exec (.resetRelease sid csel romen) s = .next { s with
      sul := { s.sul with
        straps := some ⟨sid, csel, romen⟩, working := Settings.default, phase := .ready, check := some .notRead } })

/-- R181: an unanswered addressing is followed by another 10 ms later, the third makes the EEPROM ABSENT, an answered
one is judged and its image kept when it is GOOD. While no addressing is due by the loader, the row changes nothing.
The model's choices: the clock moves up to the moment of the addressing (log entry 2), the judgement falls at the
answered addressing (log entry 15), and the row changes nothing at other times (log entry 16). -/
def Obligations.EepromAddressings : Prop :=
  ∀ (s : State) (answer : Option (List Byte)),
    (∀ k n, s.sul.phase = .addressing k n →
      (answer = none → k < 2 → exec (.eepromAddressAttempt answer) s = .next { s with
        now := max s.now n, sul := { s.sul with phase := .addressing (k + 1) (max s.now n + 10) } }) ∧
      (answer = none → 2 ≤ k → exec (.eepromAddressAttempt answer) s = .next { s with
        now := max s.now n, sul := { s.sul with phase := .ready, check := some .absent } }) ∧
      (∀ bytes, answer = some bytes → exec (.eepromAddressAttempt answer) s = .next { s with
        now := max s.now n
        sul := { s.sul with
          phase := .ready
          check := some (judgeImage bytes)
          image := if judgeImage bytes = .good then bytes.take (wordFrom bytes 2) else [] } })) ∧
    ((∀ k n, s.sul.phase ≠ .addressing k n) → exec (.eepromAddressAttempt answer) s = .next s)

/-- R181, R187: an image of 32 to 2048 bytes that begins with the marker, carries its own length and ends with its CRC
is GOOD, whatever follows it; with any other CRC it is FAULT_CRC; cut short after its length it is FAULT_READ; with a
length out of range it is FAULT_LENGTH; without the marker it is NO_MARKER. -/
def Obligations.ImageJudged : Prop :=
  ∀ (items more : List Byte) (n : Nat),
    let body : List Byte := [0x5A, 0xC3] ++ wordOf n ++ items
    (items.length + 6 = n → 32 ≤ n → n ≤ 2048 →
      judgeImage (body ++ crc16Bytes body ++ more) = .good ∧
      (∀ c : List Byte, c.length = 2 → c ≠ crc16Bytes body → judgeImage (body ++ c ++ more) = .faultCrc) ∧
      ∀ k, 4 ≤ k → k < n → judgeImage ((body ++ crc16Bytes body).take k) = .faultRead) ∧
    (n < 65536 → n < 32 ∨ 2048 < n → judgeImage (body ++ more) = .faultLength) ∧
    ∀ a b : Byte, a ≠ 0x5A ∨ b ≠ 0xC3 → judgeImage (a :: b :: more) = .noMarker

/-- R74, R182 to R185, R153, R13: the handover: the settings of the image check result are installed, the station
takes its id and enters LISTEN with its two timers, each presence switch is debounced from the open level, and each
bay takes its switch readings and the lock state they give; CONFIG_DEFAULTS or CONFIG_FAULT is raised by the check
result, and UNSECURED for each bay closed with its bolt retracted. The settings of a GOOD image are the defaults with
the items of its segments in directory order, T_lo set below T_hi and C_sel selected; of every other result, the
defaults. A segment is skipped where its start is not below its end, its start is below 28 or its end above the length
less 2; else its items of three bytes are taken in order, one or two bytes left over ignored, each as Tables 10-3 and
11-9 give, and a code that the segment does not define changes nothing. -/
def Obligations.Handover : Prop :=
  (∀ (s : State) (straps : Straps) (check : ImageCheck) (doors bolts : Byte),
    s.sul.phase = .ready → s.sul.straps = some straps → s.sul.check = some check →
    ∃ t, exec (.sulFinished doors bolts) s = .next t ∧
      t.cbi.station = .listen ∧ t.cbi.ownId = straps.sid ∧ t.sul.phase = .finished ∧ t.sul.cause = s.sul.cause ∧
      t.cbi.listenUntil = some (s.now + 2 * t.settings.refresh) ∧
      t.cbi.isolationUntil = some (s.now + 4 * t.settings.refresh) ∧
      (check = .good →
        let y := [Segment.station, .ceiling, .profile, .bay, .lock, .notice].foldl (applySegment s.sul.image)
          Settings.default
        t.settings = { y with
          tLo := if y.tLo < y.tHi then y.tLo else y.tHi - 1
          cSel := t.settings.cSel } ∧
        y.ceilings[if y.sourceItem then y.ceilingIndex else straps.csel.toNat]? = some t.settings.cSel) ∧
      (check ≠ .good → t.settings =
        { Settings.default with cSel := [300, 400, 500, 600, 800, 1000, 1200, 1440].getD straps.csel.toNat 0 }) ∧
      (∃ notices, t.ntu = enterNotices t.settings.levels t.now notices s.ntu ∧
        (∀ x ∈ [(ImageCheck.absent, NoticeKind.configDefaults, 1), (.noMarker, .configDefaults, 2),
          (.faultCrc, .configFault, 1), (.faultRead, .configFault, 2), (.faultLength, .configFault, 3)],
          (⟨x.2.1, 0, x.2.2⟩ : Notice) ∈ notices ↔ check = x.1) ∧
        ∀ b : BayId, (t.lkcBay b).doorOpen = false → (t.lkcBay b).boltRetracted = true →
          (⟨.unsecured, b.num, 1⟩ : Notice) ∈ notices) ∧
      ∀ b : BayId,
        (t.bscBay b).weight = t.settings.defaultWeight ∧ (t.dlcBay b).presenceRun = some 0 ∧
        (t.lkcBay b).doorOpen = doors.getLsbD (b.num - 1) ∧ (t.lkcBay b).boltRetracted = bolts.getLsbD (b.num - 1) ∧
        (s.lkc.queue = [] → (t.lkcBay b).lock =
          some (if (t.lkcBay b).doorOpen then .opened else if (t.lkcBay b).boltRetracted then .unsecured else .locked))) ∧
  (∀ (image : List Byte) (x : Settings) (segment : Segment),
    let word (k : Nat) : Nat := (image.getD k 0).toNat + 256 * (image.getD (k + 1) 0).toNat
    let place := [Segment.station, .ceiling, .profile, .bay, .lock, .notice].idxOf segment
    let start := word (4 + 4 * place)
    let stop := word (6 + 4 * place)
    (stop ≤ start ∨ start < 28 ∨ word 2 - 2 < stop → applySegment image x segment = x) ∧
    ∀ (items : List (Byte × Byte × Byte)) (rest : List Byte), start < stop → 28 ≤ start → stop ≤ word 2 - 2 →
      rest.length ≤ 2 →
      (image.drop start).take (stop - start) = (items.flatMap fun i => [i.1, i.2.1, i.2.2]) ++ rest →
      applySegment image x segment =
        items.foldl (fun y i => applyItem segment i.1.toNat (i.2.1.toNat + 256 * i.2.2.toNat) y) x) ∧
  ∀ (v : Nat) (x : Settings), v < 65536 →
    let signed : Int := if v < 32768 then v else (v : Int) - 65536
    let entry : ProfileEntry :=
      ⟨min 2700 (20 * (v % 256)) / 50 * 50, decide (v / 256 % 16 ≠ 0), [Phase.wake, .bulk, .taper].getD (v / 4096) .hold⟩
    applyItem .station 0x01 v x = { x with nCfg := max 1 (min 15 v) } ∧
    applyItem .station 0x02 v x = { x with refresh := max 200 (min 2000 v) } ∧
    applyItem .station 0x03 v x = { x with raiseHold := max 100 (min 1000 v) } ∧
    applyItem .station 0x04 v x = { x with sourceItem := decide (v ≠ 0) } ∧
    applyItem .station 0x05 v x = { x with ceilingIndex := min 7 v } ∧
    (∀ k < 8, applyItem .ceiling (0x10 + k) v x = { x with ceilings := x.ceilings.set k (max 100 (min 2400 v)) }) ∧
    applyItem .profile 0x20 v x =
      { x with classes := if v < 2 then 1 else if v < 4 then 2 else if v < 8 then 4 else 8 } ∧
    (∀ k < 64, applyItem .profile (0x40 + k) v x = { x with profile := x.profile.set k entry }) ∧
    applyItem .bay 0x30 v x = { x with defaultWeight := max 1 (min 15 v) } ∧
    applyItem .bay 0x31 v x = { x with checkoutMin := min 100 v } ∧
    applyItem .bay 0x32 v x = { x with provisionMin := min 100 v } ∧
    applyItem .bay 0x33 v x = { x with tHi := max (-19) (min 120 signed) } ∧
    applyItem .bay 0x34 v x = { x with tLo := max (-20) (min 119 signed) } ∧
    applyItem .bay 0x35 v x = { x with tCut := max (-20) (min 120 signed) } ∧
    applyItem .lock 0x38 v x = { x with pulseCount := min 99 v } ∧
    applyItem .lock 0x39 v x = { x with holdWindow := max 2 (min 20 v) } ∧
    applyItem .notice 0x50 v x =
      (if 1 ≤ v % 256 ∧ v % 256 ≤ 29 then { x with levels := x.levels.set (v % 256 - 1) (min 7 (v / 256)) } else x) ∧
    ∀ code,
      (code < 0x01 ∨ 0x05 < code → applyItem .station code v x = x) ∧
      (code < 0x10 ∨ 0x17 < code → applyItem .ceiling code v x = x) ∧
      (code ≠ 0x20 → code < 0x40 ∨ 0x7F < code → applyItem .profile code v x = x) ∧
      (code < 0x30 ∨ 0x35 < code → applyItem .bay code v x = x) ∧
      (code ≠ 0x38 → code ≠ 0x39 → applyItem .lock code v x = x) ∧
      (code ≠ 0x50 → applyItem .notice code v x = x)

/-! ### The line and the own frames (chapter 1) -/

/-- R1, R6, R7, R11, Table 1-3: at an idle the head of the first frame in queue order begins where the state may send
it; a lost head leaves the frame in the queue; a skipped frame changes nothing; a discarded one is counted up to 255;
the stuck condition ends. Nothing else changes. That a mismatch whose cause is open is decided by the time of the idle
is the model's choice (log entry 39). -/
def Obligations.LineRows : Prop :=
  ∀ s : State,
    (s.runs = true → s.cbi.stuck = false → s.cbi.onLine = none → exec .lineIdle s = .next { s with
      cbi := { s.cbi with
        mismatch := false
        contending :=
          match s.cbi.queue with
          | [] => none
          | f :: _ =>
            if (f.kind = .claim → s.cbi.station = .active ∨ s.cbi.station = .isolated) ∧
                (f.kind = .notice → s.cbi.station ≠ .listen) then some f.age
            else none } }) ∧
    exec .headLost s = .next { s with cbi := { s.cbi with contending := none } } ∧
    (∀ d, exec (.frameSkipped d) s = .next s) ∧
    (∀ x, s.runs = true → s.cbi.rxErrors ≤ 255 → exec (.rxFrameDiscarded x) s =
      .next { s with cbi := { s.cbi with rxErrors := min 255 (s.cbi.rxErrors + 1) } }) ∧
    exec .stuckLineEnd s = .next { s with cbi := { s.cbi with stuck := false } }

/-- R9, R11: a frame that wins its head leaves the queue and is on the line; every other frame waits on, and only a
NOTICE frame may have been placed; a raise that counts from the own CLAIM in the queue counts from it on the line. -/
def Obligations.HeadWon : Prop :=
  ∀ (s : State) (f : TxFrame), s.runs = true → TxQueueOk s → f ∈ s.cbi.queue → s.cbi.contending = some f.age →
    ∃ t, exec .headWon s = .next t ∧ t.cbi.onLine = some f ∧ t.cbi.contending = none ∧
      (∀ g ∈ s.cbi.queue, g ≠ f → g ∈ t.cbi.queue) ∧
      (∀ g ∈ t.cbi.queue, (g ∈ s.cbi.queue ∧ g ≠ f) ∨ g.kind = .notice) ∧
      (f.kind ≠ .claim → t.shu = s.shu) ∧
      (f.kind = .claim → t.shu = { s.shu with raise := s.shu.raise.map fun r =>
        if r.origin = .queuedClaim then { r with origin := .claimOnLine } else r }) ∧
      t.bsc = s.bsc ∧ t.dlc = s.dlc ∧ t.pks = s.pks ∧ t.lkc = s.lkc

/-- R12, R19, R35, R178: the end of the frame on the line. Completed: it is gone; a CLAIM restarts the refresh timer
and the hold of a raise that counts from it. Dropped: a REPLY or REPORT is lost, a NOTICE sets the overflow indicator,
and in ACTIVE and ISOLATED a new CLAIM is placed for a CLAIM. The mismatch waits for what the line shows. R173, R180:
the completion of a REPLY that carries the restart mark resets the part with cause 3; its drop does not. That at the
reset the clock, the queue and the number of the free values go on and the settings return to their defaults is the
model's choice (log entries 2 and 4). -/
def Obligations.OwnFrameEnds : Prop :=
  ∀ (s : State) (f : TxFrame), s.runs = true → s.cbi.onLine = some f →
    (f.kind = .reply → f.marked = true → exec .frameTxComplete s = .next { State.reset with
      pending := s.pending, now := s.now, free := s.free, sul := { State.reset.sul with cause := .restart } }) ∧
    (f.kind ≠ .claim → (f.kind = .reply → f.marked = false) →
      exec .frameTxComplete s = .next { s with cbi := { s.cbi with onLine := none } }) ∧
    (f.kind = .claim → exec .frameTxComplete s = .next { s with
      cbi := { s.cbi with onLine := none }
      shu := { s.shu with
        refresh := if s.cbi.station = .active ∨ s.cbi.station = .isolated then .running (s.now + s.settings.refresh)
          else s.shu.refresh
        raise := s.shu.raise.map fun r =>
          if r.origin = .claimOnLine then { r with origin := .holdUntil (s.now + s.settings.raiseHold) } else r } }) ∧
    (f.kind = .reply ∨ f.kind = .report →
      exec .postHeadMismatch s = .next { s with cbi := { s.cbi with onLine := none, mismatch := true } }) ∧
    (f.kind = .notice → exec .postHeadMismatch s = .next { s with
      cbi := { s.cbi with onLine := none, mismatch := true }, ntu := { s.ntu with overflow := true } }) ∧
    (f.kind = .claim → ∃ t, exec .postHeadMismatch s = .next t ∧ t.cbi.onLine = none ∧ t.cbi.mismatch = true ∧
      (s.cbi.station = .active ∨ s.cbi.station = .isolated →
        claimWaits t = true ∧ t.shu.lastPlaced = some
          { isolated := decide (s.cbi.station = .isolated), d := s.shu.d, f := s.shu.f, w := s.shu.w, a := s.shu.lapp,
            cSel := s.settings.cSel, nCfg := s.settings.nCfg, trimmed := s.shu.trimmed }) ∧
      t.bsc = s.bsc ∧ t.dlc = s.dlc ∧ t.pks = s.pks ∧ t.lkc = s.lkc)

/-- R8, R12, R15, R25, R32, R35, R44: a frame with the own id, or a mismatch that no stuck line explains, takes a
station from LISTEN, ACTIVE or ISOLATED to CLASHED: no CLAIM waits, the LISTEN period, the isolation timer and the
refresh timer stop, C_eff is the smaller of C_sel and the panel limit, the share is the isolated one, one isolated
share is reserved for each other station, and every peer's share is 0. Where no release waits and no package is
listed, a share above Lapp is a pending raise whose hold runs from the event, and no other raise is pending. A CLASHED
station stays CLASHED. R12 on the line: a mismatch whose bit reads recessive is a clash at once; one whose bit reads
dominant, and with it the line for n further bit-times, is a clash at the recessive bit that follows exactly where the
line was dominant for no more than 1 ms, 250 bit-times, whether or not a stuck condition has started meanwhile; R1:
that starts at the first dominant bit-time over 250 of the whole run. That the mismatch's own bit is counted in its 1
ms is the model's choice (log entry 39). -/
def Obligations.ClashRows : Prop :=
  (∀ (s : State) (c : Instr), s.runs = true →
    (c = .ownIdFrame ∨ c = .ignoredFrame s.cbi.ownId ∨ (∃ p, c = .claimArrival s.cbi.ownId p) ∨
      (c = .mismatchClashConfirmed ∧ s.cbi.mismatch = true)) →
    ∃ t, exec c s = .next t ∧ t.cbi.station = .clashed ∧
      (s.cbi.station ≠ .clashed → claimWaits t = false ∧ t.cbi.contending = none ∧ t.cbi.listenUntil = none ∧
        t.cbi.isolationUntil = none ∧ t.shu.refresh = .stopped ∧
        t.shu.cEff = (match s.shu.panelLimit with | none => s.settings.cSel | some l => min s.settings.cSel l) ∧
        t.shu.share = min t.shu.d (t.shu.cEff / t.settings.nCfg) ∧
        t.shu.rsv = (t.settings.nCfg - 1) * (t.shu.cEff / t.settings.nCfg) ∧
        t.shu.floorGrant = min t.shu.f t.shu.share ∧ (∀ p ∈ t.shu.peers, p.g = 0) ∧
        (s.onlyCharging → t.shu.lapp = min s.shu.lapp t.shu.share ∧
          t.shu.raise = if s.shu.lapp < t.shu.share then
            some ⟨t.shu.share, .holdUntil (s.now + s.settings.raiseHold)⟩ else none)) ∧
      (s.cbi.station = .clashed → t.cbi.queue.filter (fun f => f.kind = .claim) =
        s.cbi.queue.filter fun f => f.kind = .claim)) ∧
  ∀ (w : LineWatch) (n : Nat),
    .mismatchClashConfirmed ∈ (w.mismatchBit true).2 ∧
    (.mismatchClashConfirmed ∈ (((w.mismatchBit false).1.dominantFor n).bit true).2 ↔ 1 + n ≤ 250) ∧
    (.stuckLineStart ∈ (((w.mismatchBit false).1.dominantFor n).bit false).2 ↔
      w.stuck = false ∧ w.dominant + 1 + n = 250)

/-- R14, R21, R44: an ACTIVE station with N_cfg of 2 or more enters ISOLATED, every peer entry STALE, when a stuck
condition starts or the isolation timer expires; in every other state neither changes the state. A valid frame of
another station restarts the isolation timer in LISTEN and ACTIVE, and returns an ISOLATED station to ACTIVE. That the
cause of a mismatch stays open over the start of a stuck condition (R12) is the model's choice (log entry 39), as is
that an expiry moves the clock up to its moment (log entry 2). -/
def Obligations.IsolationRows : Prop :=
  ∀ s : State, s.runs = true →
    (∃ t, exec .stuckLineStart s = .next t ∧ t.cbi.stuck = true ∧ t.cbi.mismatch = s.cbi.mismatch ∧
      (s.cbi.station = .active ∧ 2 ≤ s.settings.nCfg →
        t.cbi.station = .isolated ∧ ∀ p ∈ t.shu.peers, p.state = .stale) ∧
      (s.cbi.station ≠ .active ∨ s.settings.nCfg < 2 →
        t = { s with cbi := { s.cbi with stuck := true } })) ∧
    (∀ d, s.cbi.isolationUntil = some d → ∃ t, exec .isolationTimerExpiry s = .next t ∧ t.now = max s.now d ∧
      t.cbi.isolationUntil = none ∧
      (s.cbi.station = .active ∧ 2 ≤ s.settings.nCfg →
        t.cbi.station = .isolated ∧ ∀ p ∈ t.shu.peers, p.state = .stale) ∧
      (s.cbi.station ≠ .active ∨ s.settings.nCfg < 2 →
        t = { s with now := max s.now d, cbi := { s.cbi with isolationUntil := none } })) ∧
    ∀ id, id ≠ s.cbi.ownId →
      (s.steady → exec (.ignoredFrame id) s = .next s.heard) ∧
      (s.cbi.station = .isolated → ∃ t, exec (.ignoredFrame id) s = .next t ∧ t.cbi.station = .active ∧
        t.cbi.isolationUntil = some (s.now + 4 * s.settings.refresh))

/-- R14, R18, R19: at the end of the LISTEN period the station enters ACTIVE, or ISOLATED when the line is stuck and
N_cfg is 2 or more, and its first CLAIM waits; the refresh timer stays expired, and a CLAIM is placed in ACTIVE and
ISOLATED. An event of any kind that changes D, F, W, Lapp or the trimmed flag, and leaves the station in ACTIVE or
ISOLATED with D or Lapp 4 W or more from the last placed one, or F, W or the trimmed flag different from it, or with
none placed so far, places a CLAIM, whose payload carries the new figures (R17, Table 11-2); where none of the five
differs so far, and nothing else calls for a CLAIM, none is placed. That an expiry moves the clock up to its moment is
the model's choice (log entry 2). -/
def Obligations.ListenAndRefresh : Prop :=
  (∀ (s : State) (d : Nat), s.runs = true →
    (s.cbi.listenUntil = some d → s.cbi.station = .listen → ∃ t, exec .listenPeriodExpiry s = .next t ∧
      t.now = max s.now d ∧ t.cbi.listenUntil = none ∧ claimWaits t = true ∧
      t.cbi.station = if s.cbi.stuck = true ∧ 2 ≤ s.settings.nCfg then .isolated else .active) ∧
    (s.shu.refresh = .running d → ∃ t, exec .refreshTimerExpiry s = .next t ∧ t.now = max s.now d ∧
      t.shu.refresh = .expired ∧ t.cbi.station = s.cbi.station ∧
      (s.cbi.station = .active ∨ s.cbi.station = .isolated → claimWaits t = true) ∧
      t.bsc = s.bsc ∧ t.dlc = s.dlc ∧ t.pks = s.pks ∧ t.lkc = s.lkc)) ∧
  (∀ (c : Instr) (s t : State), exec c s = .next t → t.cbi.station = .active ∨ t.cbi.station = .isolated →
    t.shu.d ≠ s.shu.d ∨ t.shu.f ≠ s.shu.f ∨ t.shu.w ≠ s.shu.w ∨ t.shu.lapp ≠ s.shu.lapp ∨ t.shu.trimmed ≠ s.shu.trimmed →
    (∀ l ∈ s.shu.lastPlaced, t.shu.news l) →
    ∃ f ∈ t.cbi.queue, f.kind = .claim ∧ f.payload =
      [if t.cbi.station = .isolated then 1 else 0, BitVec.ofNat 8 t.shu.d, BitVec.ofNat 8 t.shu.f, BitVec.ofNat 8 t.shu.w,
        BitVec.ofNat 8 t.shu.lapp, BitVec.ofNat 8 t.settings.cSel, BitVec.ofNat 8 (t.settings.cSel / 256),
        BitVec.ofNat 8 t.settings.nCfg, if t.shu.trimmed then 1 else 0]) ∧
  ∀ (ev : Ev) (l : ClaimFigures), ev.claim = false → ev.s.shu.lastPlaced = some l → ¬ ev.s.shu.news l → ev.claims.s = ev.s

/-! ### Claims, limits and the applied limit (chapter 2) -/

/-- R20, R21, R22, R23, R186: a CLAIM of a shelf other than the station is stored with its figures clamped, every
state byte but ISOLATED as ACTIVE, LIVE and of age 0, and every other entry keeps its fields; in LISTEN, ACTIVE and
CLASHED one of the wrong length is heard and no more. R34 to R36, R40, R41: in ACTIVE and ISOLATED with N_cfg of 2 or
more the overdraw check follows: with H, the Lapp that the share leaves, the A of the LIVE entries and the
reservation, at most C_eff, Lapp is no more than lowered to the share; with H above C_eff it is trimmed to the floor
grant, the trimmed flag is set, TRIMMED is raised with the new Lapp, and a raise up to the share is pending anew from
the trim on. This is said where no release waits and no package is listed, so that nothing else moves Lapp at the
event. A LIVE entry turns STALE three refresh intervals after its last CLAIM. That the expiry moves the clock up to
its moment is the model's choice (log entry 2), the origin of the raise where one own CLAIM waits and another is on
the line the model's reading (log entry 21). -/
def Obligations.PeerRows : Prop :=
  (∀ (s : State) (id : StationId) (st d f w a c0 c1 n tr : Byte), s.runs = true → id ≠ s.cbi.ownId → id ≠ 0 →
    ∃ t, exec (.claimArrival id [st, d, f, w, a, c0, c1, n, tr]) s = .next t ∧
      (∃ p ∈ t.shu.peers, p.id = id ∧ p.state = .live ∧ p.heardAt = s.now ∧
        (st ≠ 1 → p.isolated = false) ∧ (st = 1 → p.isolated = true) ∧
        p.d = min 212 d.toNat ∧ p.f = min p.d f.toNat ∧ p.w = max 1 w.toNat ∧ p.a = min 212 a.toNat ∧
        p.cSel = max 100 (min 2400 (c0.toNat + 256 * c1.toNat)) ∧ p.nCfg = max 1 (min 15 n.toNat) ∧
        (tr = 0 → p.trimmed = false) ∧ (tr = 1 → p.trimmed = true) ∧
        (s.settings.nCfg < id.toNat ∨ p.nCfg ≠ s.settings.nCfg → p.countNoted = true) ∧
        (p.cSel ≠ s.settings.cSel → p.ceilingNoted = true)) ∧
      (∀ q ∈ s.shu.peers, q.id ≠ id → ∃ p ∈ t.shu.peers, { p with g := q.g } = q) ∧
      (s.cbi.station = .isolated → t.cbi.station = .active) ∧
      (s.cbi.station = .active ∨ s.cbi.station = .isolated → 2 ≤ s.settings.nCfg → s.onlyCharging →
        let old := min s.shu.lapp t.shu.share
        let heard := old + ((t.shu.peers.filter fun p => p.state = .live).map Peer.a).sum + t.shu.rsv
        let pending := if s.cbi.station = .active then s.shu.raise else none
        (heard ≤ t.shu.cEff → t.shu.lapp = old ∧ t.shu.trimmed = s.shu.trimmed ∧
          t.shu.raise = if old < t.shu.share then
            some ⟨t.shu.share, (pending.map Raise.origin).getD t.raiseOrigin⟩ else none) ∧
        (t.shu.cEff < heard → t.shu.lapp = min old t.shu.floorGrant ∧ t.shu.trimmed = true ∧
          (t.shu.raise = if t.shu.lapp < t.shu.share then some ⟨t.shu.share, t.raiseOrigin⟩ else none) ∧
          (s.masksAll → HandsOver s t .trimmed 0 t.shu.lapp)))) ∧
  (∀ (s : State) (id : StationId) (payload : List Byte), s.steady → id ≠ s.cbi.ownId → id ≠ 0 → payload.length ≠ 9 →
    exec (.claimArrival id payload) s = .next s.heard) ∧
  ∀ (s : State) (p : Peer), s.runs = true → PeersOk s → p ∈ s.shu.peers → p.state = .live →
    ∃ t, exec (.peerEntryStale p.id) s = .next t ∧ t.now = max s.now (p.heardAt + 3 * s.settings.refresh) ∧
      (∃ q ∈ t.shu.peers, { q with g := p.g } = { p with state := .stale }) ∧
      ∀ q ∈ s.shu.peers, q ≠ p → ∃ r ∈ t.shu.peers, { r with g := q.g } = q

/-- R24: the panel limit that a LIMIT value sets or clears, the computation that follows, and that no REPLY does; and
that LIMIT frames and resets alone change it. -/
def Obligations.PanelLimit : Prop :=
  (∀ (s : State) (lo hi : Byte), s.runs = true →
    let v := lo.toNat + 256 * hi.toNat
    ∃ t, exec (.limitArrival [lo, hi]) s = .next t ∧
      t.shu.panelLimit = (if v = 0 then none else if v < 100 then some 100 else if v ≤ 2400 then some v else some 2400) ∧
      t.shu.cEff = (shareComputation t).cEff ∧ t.shu.rsv = (shareComputation t).rsv ∧
      t.shu.share = (shareComputation t).share ∧ t.shu.floorGrant = (shareComputation t).floorGrant ∧
      ∀ f ∈ t.cbi.queue, f.kind = .reply → f ∈ s.cbi.queue) ∧
  (∀ (c : Instr) (s t : State), exec c s = .next t → (∀ p, c ≠ .limitArrival p) →
    t.shu.panelLimit = s.shu.panelLimit ∨ (c.mayReset ∧ t.shu.panelLimit = none)) ∧
  core.reset.shu.panelLimit = none

/-- R34 to R36: a LIMIT that reaches an ACTIVE or CLASHED station runs a computation: a share above Lapp makes a raise
pending, whose origin is the own CLAIM that waits or is on the line where N_cfg is 2 or more and the station ACTIVE,
and the event otherwise; a raise that is pending keeps its origin and aims at the new share; a share at Lapp cancels
it, and a lower one lowers Lapp at once. R36, R42: when the hold of a raise expires the trimmed flag clears, Lapp is
the target, no raise is pending, and the grants add up to at most the new Lapp less the power of the drivers. What
Lapp is after a lowering or an expiry is said where no release waits and no package is listed, so that nothing else
follows but the split; the form in which one does is left out. That the expiry moves the clock up to its moment is the
model's choice (log entry 2), the origin where one CLAIM waits and one is on the line the model's reading (log entry
21). -/
def Obligations.RaiseHoldOver : Prop :=
  (∀ (s : State) (lo hi : Byte), s.cbi.station = .active ∨ s.cbi.station = .clashed →
    ∃ t, exec (.limitArrival [lo, hi]) s = .next t ∧
      (s.shu.lapp < t.shu.share → s.shu.raise = none →
        t.shu.lapp = s.shu.lapp ∧ t.shu.raise = some ⟨t.shu.share, s.raiseOrigin⟩) ∧
      (∀ r, s.shu.lapp < t.shu.share → s.shu.raise = some r →
        t.shu.lapp = s.shu.lapp ∧ t.shu.raise = some ⟨t.shu.share, r.origin⟩) ∧
      (t.shu.share = s.shu.lapp → s.onlyCharging → t.shu.lapp = s.shu.lapp ∧ t.shu.raise = none) ∧
      (t.shu.share < s.shu.lapp → s.onlyCharging → t.shu.lapp = t.shu.share ∧ t.shu.raise = none)) ∧
  ∀ (s : State) (target d : Nat), s.runs = true → s.shu.raise = some ⟨target, .holdUntil d⟩ →
    ∃ t, exec .raiseHoldExpiry s = .next t ∧ t.now = max s.now d ∧ t.shu.trimmed = false ∧
      (s.onlyCharging → t.shu.lapp = target ∧ t.shu.raise = none ∧ t.shu.share = s.shu.share ∧
        (s.shu.lapp < target → (t.bsc.bays.toList.map BscBay.grant).sum ≤ target - s.lkc.power))

/-! ### Commands of the cart panel (chapters 3, 8 and 9) -/

/-- R154 to R158: a release that passes the tests is answered ACCEPTED: the record of the bay is WAITING, and its
entry stands in the queue or on a driver with the hold window, the pulse length and the time made. -/
def Obligations.ReleaseAdmitted : Prop :=
  ∀ (s : State) (bay hold : Byte) (b : BayId), s.runs = true → s.hasRoom → bay.toNat = b.num →
    s.lkc.hasEntry b = false → s.lkc.queue.length < 8 →
    let window := 1000 * if hold.toNat = 0 then s.settings.holdWindow else max 2 (min 20 hold.toNat)
    let pulse := 10 * (s.settings.pulseCount + 1)
    ((s.lkcBay b).lock = some .locked ∨ (s.lkcBay b).lock = some .unsecured →
      ((s.dlcBay b).dock = .active ∨ (s.dlcBay b).dock = .asleep) → (s.lkcBay b).quarantine = false →
      (∀ tag ∈ (s.lkcBay b).assignment, ∃ r ∈ (s.dlcBay b).record, r.tag = tag) →
      s.settings.checkoutMin ≤ countedPercent (s.dlcBay b) →
      ∃ t, exec (.releaseCheckout bay hold) s = .next t ∧ Replied s t 0x10 bay .accepted ∧
        (t.lkcBay b).release = some ⟨.checkout, .waiting⟩ ∧ t.standsRelease b .checkout window pulse s.now) ∧
    ((s.lkcBay b).lock = some .locked ∨ (s.lkcBay b).lock = some .unsecured → (s.dlcBay b).dock = .empty →
      ∃ t, exec (.releaseReturn bay hold) s = .next t ∧ Replied s t 0x10 bay .accepted ∧
        (t.lkcBay b).release = some ⟨.returning, .waiting⟩ ∧ t.standsRelease b .returning window pulse s.now) ∧
    ((s.lkcBay b).lock = some .locked ∨ (s.lkcBay b).lock = some .unsecured ∨ (s.lkcBay b).lock = some .lockFault →
      ∃ t, exec (.releaseService bay hold) s = .next t ∧ Replied s t 0x10 bay .accepted ∧
        (t.lkcBay b).release = some ⟨.service, .waiting⟩ ∧
        t.standsRelease b .service window (if (s.lkcBay b).lock = some .lockFault then 1000 else pulse) s.now)

/-- R154 to R156, Tables 8-2 and 8-3: the refusals of a RELEASE in LISTEN, ACTIVE and CLASHED, each of which answers
and changes nothing else: BAD_BAY, BAD_VALUE for a kind, BUSY, LOCK_FAULT, and the tests of a RETURN and a CHECKOUT.
-/
def Obligations.ReleaseRefused : Prop :=
  ∀ (s : State) (bay hold : Byte), s.steady → s.hasRoom →
    let answer (c : Instr) (code : ResultCode) : Prop := exec c s = .next (s.answered 0x10 bay code)
    (bayOf bay = none → answer (.releaseCheckout bay hold) .badBay ∧ answer (.releaseReturn bay hold) .badBay ∧
      answer (.releaseService bay hold) .badBay ∧ ∀ kind, answer (.releaseBadKind [bay, kind, hold]) .badBay) ∧
    ∀ b : BayId, bay.toNat = b.num →
      (∀ kind : Byte, kind ≠ 1 → kind ≠ 2 → kind ≠ 3 → answer (.releaseBadKind [bay, kind, hold]) .badValue) ∧
      (s.lkc.hasEntry b = true ∨ (s.lkcBay b).lock = some .prepare ∨ (s.lkcBay b).lock = some .pulse ∨
        (s.lkcBay b).lock = some .hold ∨ (s.lkcBay b).lock = some .opened →
        ((s.lkcBay b).lock = some .lockFault → s.lkc.hasEntry b = true) →
        answer (.releaseCheckout bay hold) .busy ∧ answer (.releaseReturn bay hold) .busy ∧
          answer (.releaseService bay hold) .busy) ∧
      (s.lkc.hasEntry b = false → (s.lkcBay b).lock = some .lockFault →
        answer (.releaseCheckout bay hold) .lockFault ∧ answer (.releaseReturn bay hold) .lockFault) ∧
      (8 ≤ s.lkc.queue.length → (s.lkcBay b).lock ≠ some .lockFault →
        answer (.releaseCheckout bay hold) .busy ∧ answer (.releaseReturn bay hold) .busy ∧
          answer (.releaseService bay hold) .busy) ∧
      (s.lkc.hasEntry b = false → s.lkc.queue.length < 8 →
        (s.lkcBay b).lock = some .locked ∨ (s.lkcBay b).lock = some .unsecured →
        let d := s.dlcBay b
        let x := s.lkcBay b
        (d.dock ≠ .empty → answer (.releaseReturn bay hold) .occupied) ∧
        (d.dock = .empty → answer (.releaseCheckout bay hold) .emptyBay) ∧
        (d.dock = .seated → answer (.releaseCheckout bay hold) .notReady) ∧
        (d.dock = .active ∨ d.dock = .asleep →
          (x.quarantine = true → answer (.releaseCheckout bay hold) .quarantined) ∧
          (x.quarantine = false → (∃ tag ∈ x.assignment, ∀ r ∈ d.record, r.tag ≠ tag) →
            answer (.releaseCheckout bay hold) .wrongTablet) ∧
          (x.quarantine = false → (∀ tag ∈ x.assignment, ∃ r ∈ d.record, r.tag = tag) →
            countedPercent d < s.settings.checkoutMin → answer (.releaseCheckout bay hold) .lowCharge)))

/-- R47, R48, R59, R162, R163, R177: what QUARANTINE, ASSIGN, ASSIGN_CLEAR, NEED, FIXED, FIXED_TABLE and NOTICE_MASK
write, answered DONE; and in LISTEN, ACTIVE and CLASHED, QUARANTINE and ASSIGN_CLEAR change nothing else but the
transmit queue and the isolation timer, and neither does an ASSIGN for a bay with no record or of the tag it carries.
-/
def Obligations.SettingCommands : Prop :=
  (∀ (s : State) (bay : Byte) (b : BayId), s.steady → s.hasRoom → bay.toNat = b.num →
    (∀ v : Byte, v = 0 ∨ v = 1 → exec (.quarantine [bay, v]) s =
      .next ((s.setLkcBay b { s.lkcBay b with quarantine := decide (v = 1) }).answered 0x11 bay .done)) ∧
    (exec (.assignClear bay) s =
      .next ((s.setLkcBay b { s.lkcBay b with assignment := none }).answered 0x12 bay .done)) ∧
    ∀ tag : Tag, tagOk tag = true → (∀ r ∈ (s.dlcBay b).record, r.tag = tag) → exec (.assign (bay :: tag)) s =
      .next ((s.setLkcBay b { s.lkcBay b with assignment := some tag }).answered 0x12 bay .done)) ∧
  ∀ (s : State), s.runs = true → s.hasRoom →
    (∀ (bay : Byte) (b : BayId), bay.toNat = b.num →
      (∀ v : Byte, v = 0 ∨ v = 1 → ∃ t, exec (.quarantine [bay, v]) s = .next t ∧ Replied s t 0x11 bay .done ∧
        (t.lkcBay b).quarantine = decide (v = 1)) ∧
      (∀ tag : Tag, tagOk tag = true → ∃ t, exec (.assign (bay :: tag)) s = .next t ∧ Replied s t 0x12 bay .done ∧
        (t.lkcBay b).assignment = some tag) ∧
      (∃ t, exec (.assignClear bay) s = .next t ∧ Replied s t 0x12 bay .done ∧ (t.lkcBay b).assignment = none) ∧
      (∀ w : Byte, ∃ t, exec (.need [bay, w]) s = .next t ∧ Replied s t 0x13 bay .done ∧
        (t.bscBay b).weight = max 1 (min 15 w.toNat)) ∧
      (∀ lo hi : Byte, lo.toNat + 256 * hi.toNat ≠ 65535 → (s.dlcBay b).dock ≠ .empty →
        ∃ t, exec (.fixed [bay, lo, hi]) s = .next t ∧ Replied s t 0x14 bay .done ∧
          (t.bscBay b).fixed = some (min 2700 (lo.toNat + 256 * hi.toNat) / 50 * 50)) ∧
      ∃ t, exec (.fixedTable bay) s = .next t ∧ Replied s t 0x14 bay .done ∧ (t.bscBay b).fixed = none) ∧
    ∀ m : Byte, m.toNat ≤ 7 → ∃ t, exec (.noticeMask [m]) s = .next t ∧ Replied s t 0x15 0 .done ∧
      t.ntu.mask = m.toNat

/-- R172, Tables 11-3 and 11-4: the REPORT frames of a QUERY in LISTEN, ACTIVE and CLASHED: one of STATION, three of a
BAY, one of a PACKAGE in the table, and one for every three peer entries; nothing else changes but the isolation timer
and, for a BAY, the running number of the free values (log entry 6). Their values are those of Table 11-3, byte by
byte, with the codes of Table 11-4. Open in the manual and so the model's: the time left of a driver in PREPARE, which
no clause bounds (log entry 9); 0 as the time left to a wait limit that has fallen (log entry 34); 255 for a measured
power above 255 W and the 0 once the output has been off for a second (log entry 7). -/
def Obligations.QueryRows : Prop :=
  (∀ (s : State), s.steady →
    (∀ x : Byte, 2 ≤ freeSlots s →
      exec (.queryStation x) s = .next (placeFrame .report ([1, 0, 1, 1] ++ stationValues s) false s.heard)) ∧
    (∀ (bay : Byte) (b : BayId), bay.toNat = b.num → 4 ≤ freeSlots s →
      let t := placeFrame .report ([2, bay, 3, 3] ++ bayValues3 s b) false
        (placeFrame .report ([2, bay, 2, 3] ++ bayValues2 s b) false
          (placeFrame .report ([2, bay, 1, 3] ++ bayValues1 s b) false s.heard))
      exec (.queryBay bay) s = .next { t with free := s.free + 1 }) ∧
    (∀ (id : Byte) (p : Package), id ≠ 0 → findPackage s.pks.table id.toNat = some p → 2 ≤ freeSlots s →
      exec (.queryPackage id) s = .next (placeFrame .report ([3, id, 1, 1] ++ packageValues p) false s.heard)) ∧
    (∀ x : Byte, s.shu.peers.length ≤ 3 → 2 ≤ freeSlots s → exec (.queryPeers x) s =
      .next (placeFrame .report ([4, 0, 1, 1] ++ (s.shu.peers.map peerBytes).flatten) false s.heard)) ∧
    ∀ x : Byte, (s.shu.peers.length + 2) / 3 < freeSlots s → 1 ≤ s.shu.peers.length →
      ∃ t, exec (.queryPeers x) s = .next t ∧
        t.cbi.queue.length = s.cbi.queue.length + (s.shu.peers.length + 2) / 3 ∧
        ∀ k < (s.shu.peers.length + 2) / 3, ∃ f ∈ t.cbi.queue, f.kind = .report ∧ f.age = s.cbi.nextAge + k ∧
          f.payload = [4, 0, byteOf (k + 1), byteOf ((s.shu.peers.length + 2) / 3)] ++
            (((s.shu.peers.drop (3 * k)).take 3).map peerBytes).flatten) ∧
  (∀ (s : State),
    let n8 (n : Nat) : Byte := BitVec.ofNat 8 n
    let n16 (n : Nat) : List Byte := [n8 n, n8 (n / 256)]
    let flag (x : Bool) : Byte := if x then 1 else 0
    let none12 : List Byte := List.replicate 12 0
    stationValues s = [n8 s.cbi.station.code] ++ n16 s.settings.cSel ++ n16 s.shu.cEff ++ [n8 s.settings.nCfg] ++
      n16 (s.shu.panelLimit.getD 0) ++ [n8 s.shu.lapp, n8 s.shu.share, n8 s.shu.d, n8 s.shu.f, n8 s.shu.w,
        flag s.shu.trimmed, n8 s.bsc.derate.code, BitVec.ofInt 8 (s.bsc.sensor1.last.getD (-128)),
        BitVec.ofInt 8 (s.bsc.sensor2.last.getD (-128)),
        n8 ((if s.bsc.sensor1.faulty then 1 else 0) + if s.bsc.sensor2.faulty then 2 else 0), n8 s.cbi.rxErrors,
        n8 s.ntu.mask, n8 s.ntu.entries.length, flag s.ntu.overflow] ∧
    (∀ p : Peer, peerBytes p = [n8 p.id.toNat, if p.state = .live then 0 else 1, flag p.isolated, flag p.trimmed,
      n8 p.d, n8 p.f, n8 p.w, n8 p.a, n8 p.g]) ∧
    (∀ p : Package, ∃ set : Byte, (∀ b : BayId, set.getLsbD (b.num - 1) = (p.targets.get b).isSome) ∧
      packageValues p = [n8 p.state.code, n8 p.length, set] ++
        (BayId.all.map fun b => n8 (((p.targets.get b).map fun x => x.outcome.code).getD 0)) ++
        (BayId.all.map fun b => n8 (((p.targets.get b).map Target.attempts).getD 0)) ++
        BayId.all.map fun b =>
          match p.targets.get b with | some ⟨.endedByTablet r, _⟩ => n8 r | _ => 0) ∧
    ∀ b : BayId,
      let d := s.dlcBay b
      let x := s.bscBay b
      let l := s.lkcBay b
      let lately : Prop := ∃ t ∈ x.offSince, s.now < t + 1000
      bayValues1 s b = [n8 d.dock.code, n8 d.misses] ++
        (match d.record with
          | none => List.replicate 19 0
          | some r => [1] ++ r.tag ++ [n8 r.cls, n8 (r.percent.getD 255), flag r.inhibit, flag r.free] ++
            n16 (min 65535 (s.now - r.answeredAt))) ++ d.lastTablet.getD none12 ∧
      (∃ (power left : Nat) (driver entry : List Byte),
        bayValues2 s b = [n8 x.supply.code, n8 x.weight] ++ n16 (x.fixed.getD 65535) ++
          [n8 ((x.phase.map fun p => [Phase.wake, .bulk, .taper, .hold].idxOf p).getD 255), n8 x.request, n8 x.floor,
            n8 x.grant] ++ n16 x.applied.current ++ [if x.applied.nineVolt then 9 else 5, n8 power,
            n8 ((l.lock.map LockState.code).getD 0), flag l.doorOpen, flag l.boltRetracted, flag l.extendUntil.isSome,
            n8 l.jams] ++ n16 (l.lastRetract.getD 65535) ++ driver ++ entry ∧
        (0 < x.applied.current ∨ lately → power = min 255 (x.meter.powers.sum / 1000 / 1000000)) ∧
        (x.applied.current = 0 → ¬ lately → power = 0) ∧
        (driverAt? s b = none → driver = [0, 0, 0, 0, 0]) ∧
        (∀ i e phase opened, driverAt? s b = some (i, e, phase, opened) →
          driver = [if i = .d1 then 1 else 2] ++ n16 e.pulse ++ n16 left ∧
          (∀ from_ until_ seen, phase = .pulse from_ until_ seen → left = until_ - s.now) ∧
          (∀ until_, phase = .hold until_ → left = until_ - s.now)) ∧
        (s.lkc.entry? b = none → entry = List.replicate 8 0) ∧
        ∀ e, s.lkc.entry? b = some e →
          let wait := if e.modeWait then 1 else if d.transfer.isSome then 2
            else if s.shu.lapp < s.lkc.power + 10 ∧ l.lock ≠ some .cooldown then 3 else 4
          entry = [1, n8 e.kind.code, n8 wait, flag e.retry] ++ n16 e.pulse ++ n16 (e.made + 10000 - s.now)) ∧
      bayValues3 s b = [flag l.quarantine] ++ l.assignment.getD none12 ++
        (match l.release with | none => [0, 0] | some r => [n8 r.kind.code, n8 r.outcome.code]) ++
        ([0, 1, 2, 3].map fun k => n8 ((s.pksBay b).list.getD k 0)) ++
        (match d.transfer with
          | none => [0, 0, 0]
          | some t => [n8 t.id, n8 t.next, n8 ((if t.suspended then 1 else 0) + if t.takeover then 2 else 0)]) ++
        [flag (s.pksBay b).retryUntil.isSome] ++
        match d.lastEnd with
          | none => [0, 0, 0, 0]
          | some ⟨id, .aborted cause⟩ =>
            [n8 id, 6, n8 ([AbortCause.withdrawn, .lockState, .takeover, .removed].idxOf cause + 1), 0]
          | some ⟨id, .endedByTablet r⟩ => [n8 id, 4, 0, n8 r]
          | some ⟨id, r⟩ => [n8 id, n8 r.code, 0, 0]) ∧
  [StationState.starting, .listen, .active, .isolated, .clashed, .halted].map StationState.code = [0, 1, 2, 3, 4, 5] ∧
  [ReleaseKind.checkout, .returning, .service].map ReleaseKind.code = [1, 2, 3] ∧
  [LockState.locked, .queued, .prepare, .pulse, .hold, .opened, .cooldown, .lockFault, .unsecured].map LockState.code =
    [1, 2, 3, 4, 5, 6, 7, 8, 9] ∧
  [PackageState.loading, .ready, .withdrawing, .complete, .loadFault, .checkFault].map PackageState.code =
    [1, 2, 3, 4, 5, 6] ∧
  (∀ r, [PkgOutcome.pending, .delivered, .endedByTablet r, .hadIt, .failed, .refused, .full].map PkgOutcome.code =
    [1, 2, 3, 4, 5, 6, 7]) ∧
  [DockState.empty, .seated, .active, .asleep].map DockState.code = [0, 1, 2, 3] ∧
  [SupplyState.idle, .run, .fault].map SupplyState.code = [0, 1, 2] ∧
  [DerateLevel.l0, .l1, .l2, .l3, .cut].map DerateLevel.code = [0, 1, 2, 3, 4] ∧
  [ReleaseOutcome.waiting, .opened, .taken, .notTaken, .returned, .notReturned, .closed, .notOpened, .fault,
    .dropped].map ReleaseOutcome.code = [1, 2, 3, 4, 5, 6, 7, 8, 9, 10] ∧
  [TransferResult.delivered, .hadIt, .refused, .endedByTablet 0, .failedAttempt].map TransferResult.code =
    [1, 2, 3, 4, 5]

/-- R4, R47, R103, R162, R163, R170 to R173, R177: the answers that change nothing else: to an unknown kind, a QUERY
that names no subject or nothing that exists, a payload of the wrong length, a bay or a value out of bounds, a FIXED
for an EMPTY bay, a package that the table does not hold; and the REPLY to a RESTART, which carries the restart mark.
The model's readings: the id byte of the REPLY to a wrong length (log entry 19), and QUERY_BAD_SUBJECT with the code
of a subject that has a row of its own (log entry 18). -/
def Obligations.OtherAnswers : Prop :=
  ∀ (s : State), s.steady → s.hasRoom →
    let answer (c : Instr) (kind id : Byte) (code : ResultCode) : Prop := exec c s = .next (s.answered kind id code)
    (∀ kind payload, answer (.unknownCommand kind payload) kind 0 .unknownKind) ∧
    (exec (.restart []) s = .next (placeFrame .reply [0x17, 0, 1] true s.heard)) ∧
    (∀ x xs, answer (.restart (x :: xs)) 0x17 0 .badValue) ∧
    (∀ subject id : Byte, subject ≠ 1 → subject ≠ 4 → answer (.queryBadSubject [subject, id]) 0x16 id .badValue) ∧
    (answer (.queryPackage 0) 0x16 0 .badValue) ∧
    (∀ id : Byte, id ≠ 0 → findPackage s.pks.table id.toNat = none → answer (.queryPackage id) 0x16 id .unknownPackage ∧
      answer (.packageWithdraw [id]) 0x19 id .unknownPackage) ∧
    (answer (.packageWithdraw [0]) 0x19 0 .badValue) ∧
    (∀ m : Byte, 7 < m.toNat → answer (.noticeMask [m]) 0x15 0 .badValue) ∧
    (∀ bay : Byte, bayOf bay = none → answer (.queryBay bay) 0x16 bay .badBay ∧ answer (.assignClear bay) 0x12 bay .badBay ∧
      answer (.fixedTable bay) 0x14 bay .badBay ∧ ∀ x y : Byte, answer (.quarantine [bay, x]) 0x11 bay .badBay ∧
        answer (.need [bay, x]) 0x13 bay .badBay ∧ answer (.fixed [bay, x, y]) 0x14 bay .badBay) ∧
    (∀ (bay : Byte) (b : BayId), bay.toNat = b.num →
      (∀ x : Byte, x ≠ 0 → x ≠ 1 → answer (.quarantine [bay, x]) 0x11 bay .badValue) ∧
      (∀ tag : Tag, tag.length = 12 → tag ≠ noTag → tagOk tag = false → answer (.assign (bay :: tag)) 0x12 bay .badValue) ∧
      ∀ lo hi : Byte, lo.toNat + 256 * hi.toNat ≠ 65535 → (s.dlcBay b).dock = .empty →
        answer (.fixed [bay, lo, hi]) 0x14 bay .emptyBay) ∧
    ∀ (x : Byte) (xs : List Byte),
      (xs.length ≠ 1 → answer (.quarantine (x :: xs)) 0x11 x .badValue ∧ answer (.need (x :: xs)) 0x13 x .badValue) ∧
      (xs.length ≠ 2 → answer (.fixed (x :: xs)) 0x14 x .badValue ∧ answer (.releaseBadKind (x :: xs)) 0x10 x .badValue) ∧
      (xs.length ≠ 12 → answer (.assign (x :: xs)) 0x12 x .badValue) ∧
      (xs ≠ [] → answer (.packageWithdraw (x :: xs)) 0x19 x .badValue) ∧
      (xs.length ≠ 5 → answer (.packageOpen (x :: xs)) 0x18 x .badValue)

/-- R10, R172: a command that finds fewer free slots than its answer needs and one more is heard and no more: no
answer, no effect. A REPLY and a REPORT of one frame need two slots, a QUERY of a bay four, and a QUERY of the peers
one more than its frames, one for every three entries and one for an empty table. -/
def Obligations.NoRoomNoEffect : Prop :=
  ∀ (s : State), s.steady →
    (freeSlots s < 2 → ∀ (x y : Byte) (payload : List Byte),
      ∀ c ∈ [Instr.releaseCheckout x y, .releaseReturn x y, .releaseService x y, .releaseBadKind payload,
        .quarantine payload, .assign payload, .assignClear x, .need payload, .fixed payload, .fixedTable x,
        .noticeMask payload, .queryStation x, .queryBay x, .queryPackage x, .queryPeers x, .queryBadSubject payload,
        .restart payload, .packageOpen payload, .packageWithdraw payload, .unknownCommand x payload],
      exec c s = .next s.heard) ∧
    (∀ (bay : Byte) (b : BayId), bay.toNat = b.num → freeSlots s < 4 → exec (.queryBay bay) s = .next s.heard) ∧
    ∀ x : Byte, freeSlots s < max 1 ((s.shu.peers.length + 2) / 3) + 1 → exec (.queryPeers x) s = .next s.heard

/-! ### The package store (chapter 5) -/

/-- R92, R94 to R96, Table 5-4: a PACKAGE_OPEN is refused by its first failing test, and changes nothing else; one
that passes them makes a LOADING entry at the lowest base block whose run is free, PENDING on its target bays. The
entry takes the place of the id's own settled entry, where there is one, even in a full table; else it is one more in
a table with room; else it takes the place of the settled entry with the lowest settle order number. Nothing else
changes. That the check value comes high-order byte first, as the CRC-16 it is, is the model's reading of R186 (log
entry 36). -/
def Obligations.PackageOpened : Prop :=
  ∀ (s : State) (id l0 l1 targets c0 c1 : Byte), s.steady → s.hasRoom →
    let n := l0.toNat + 256 * l1.toNat
    let t := s.pks.table
    let free (base : Nat) : Prop := base + n / 32 ≤ 128 ∧ ∀ p ∈ t, p.state.holdsBlocks = true →
      p.base + p.length ≤ base ∨ base + n / 32 ≤ p.base
    let answer (code : ResultCode) : Prop :=
      exec (.packageOpen [id, l0, l1, targets, c0, c1]) s = .next (s.answered 0x18 id code)
    let lengthOk : Prop := n % 32 = 0 ∧ 32 ≤ n ∧ n ≤ 1024
    let entered (others : List Package) : Prop :=
      ((∀ base, ¬ free base) → answer .noRoom) ∧
      ∀ base, free base → (∀ lower < base, ¬ free lower) →
        exec (.packageOpen [id, l0, l1, targets, c0, c1]) s = .next
          (({ s with pks := { s.pks with table := others ++
            [{ id := id.toNat, state := .loading, length := n / 32, base := base, check := 256 * c0.toNat + c1.toNat,
               targets := PerBay.ofFn fun b => if targets.getLsbD (b.num - 1) then some ⟨.pending, 0⟩ else none,
               nextOffset := 0, settle := 0 }] } } : State).answered 0x18 id .done)
    (id = 0 → answer .badValue) ∧
    (id ≠ 0 → ¬ lengthOk → answer .badLength) ∧
    (id ≠ 0 → lengthOk → targets = 0 → answer .badTarget) ∧
    (id ≠ 0 → lengthOk → targets ≠ 0 →
      (∀ p, findPackage t id.toNat = some p → p.state.holdsBlocks = true → answer .duplicate) ∧
      (findPackage t id.toNat = none → 8 ≤ t.length → (∀ p ∈ t, p.state.holdsBlocks = true) → answer .noEntry) ∧
      (∀ p, findPackage t id.toNat = some p → p.state.holdsBlocks = false →
        entered (t.filter fun q => q.id ≠ id.toNat)) ∧
      (findPackage t id.toNat = none → t.length < 8 → entered t) ∧
      ∀ p ∈ t, findPackage t id.toNat = none → 8 ≤ t.length → p.state.holdsBlocks = false →
        (∀ q ∈ t, q.state.holdsBlocks = false → q ≠ p → p.settle < q.settle) →
        entered (t.filter fun q => q.id ≠ p.id))

/-- R97 to R99: PACKAGE_DATA for a LOADING entry: a block at the next load offset is written into the entry's store
block at that offset and no other byte changes, the last one being checked; a lower offset is ignored; a higher one is
a gap, and the entry enters LOAD_FAULT. A payload of another length, or for an id with no LOADING entry, changes
nothing. -/
def Obligations.PackageDataRows : Prop :=
  ∀ (s : State) (id off : Byte) (bytes : List Byte), StoreOk s → bytes.length = 32 →
    (∀ p, s.runs = true → findPackage s.pks.table id.toNat = some p → p.state = .loading → off.toNat = p.nextOffset →
      ∃ t, exec (.packageData (id :: off :: bytes)) s = .next t ∧
        (∀ k < 32, storeRead t.pks.store (storeAddress p.base off.toNat k) = bytes.getD k 0) ∧
        (∀ a, (∀ k < 32, a ≠ storeAddress p.base off.toNat k) → storeRead t.pks.store a = storeRead s.pks.store a) ∧
        ∃ q, findPackage t.pks.table id.toNat = some q ∧ q.nextOffset = p.nextOffset + 1 ∧
          (off.toNat + 1 ≠ p.length → q.state = .loading) ∧
          (off.toNat + 1 = p.length →
            let stored := (List.range p.length).flatMap (storeBlock t.pks.store p.base)
            ((crc16 stored).toNat = p.check → q.state = .ready ∨ q.state = .complete) ∧
            ((crc16 stored).toNat ≠ p.check → q.state = .checkFault))) ∧
    (∀ p, s.steady → findPackage s.pks.table id.toNat = some p → (p.state ≠ .loading ∨ off.toNat < p.nextOffset) →
      exec (.packageData (id :: off :: bytes)) s = .next s.heard) ∧
    (s.steady → findPackage s.pks.table id.toNat = none → exec (.packageData (id :: off :: bytes)) s = .next s.heard) ∧
    (∀ payload : List Byte, s.steady → payload.length ≠ 34 → exec (.packageData payload) s = .next s.heard) ∧
    ∀ p, s.runs = true → findPackage s.pks.table id.toNat = some p → p.state = .loading → p.nextOffset < off.toNat →
      ∃ t q, exec (.packageData (id :: off :: bytes)) s = .next t ∧ findPackage t.pks.table id.toNat = some q ∧
        q.state = .loadFault ∧ q.settle = s.pks.nextSettle ∧ t.pks.store = s.pks.store

/-- R103, R104: PACKAGE_WITHDRAW frees an entry that is loading, settled, or READY with no transfer in flight, and is
answered DONE; with a transfer in flight a READY entry is WITHDRAWING until none is, and is answered ACCEPTED. The id
is on no list afterwards. -/
def Obligations.PackageWithdrawn : Prop :=
  ∀ (s : State) (id : Byte) (p : Package), s.hasRoom → id ≠ 0 → PackagesOk s → findPackage s.pks.table id.toNat = some p →
    (s.steady → p.state ≠ .ready → p.state ≠ .withdrawing → exec (.packageWithdraw [id]) s = .next
      (({ s with pks := { s.pks with table := s.pks.table.filter fun q => q.id ≠ id.toNat } } : State).answered 0x19 id .done)) ∧
    (s.steady → p.state = .withdrawing → exec (.packageWithdraw [id]) s = .next (s.answered 0x19 id .accepted)) ∧
    (s.runs = true → p.state = .ready → inFlight s id.toNat = false → ∃ t, exec (.packageWithdraw [id]) s = .next t ∧
      Replied s t 0x19 id .done ∧ findPackage t.pks.table id.toNat = none ∧ ∀ b, id.toNat ∉ (t.pksBay b).list) ∧
    (s.runs = true → p.state = .ready → inFlight s id.toNat = true → ∃ t, exec (.packageWithdraw [id]) s = .next t ∧
      Replied s t 0x19 id .accepted ∧ (∀ q ∈ t.pks.table, q.id = id.toNat → q.state = .withdrawing) ∧
      ∀ b, id.toNat ∉ (t.pksBay b).list)

/-! ### Supplies and temperature (chapter 3) -/

/-- R16, R64, R67: at the end of the shed wait the pending rise is applied, and nothing else changes; a supply fault
of a bay in RUN turns its output off at once and puts it in FAULT, an undervoltage only where the setpoint is above 0,
and D, F and W stay those composed of the bay figures (said where no release waits and no package is listed). A
setpoint computed at or below the applied power is applied at once and cancels a pending rise; one above it is pending
for 50 ms from the first computation that left a rise pending. In IDLE, in FAULT and at CUT the setpoint is 0 mA, and
after reset every applied setpoint is 0 mA with no rise pending. That the end of a shed wait moves the clock up to its
moment, and one that does not run changes nothing, is the model's choice (log entry 2). -/
def Obligations.SupplyRows : Prop :=
  (∀ (s : State) (b : BayId), s.runs = true →
    (∀ r, (s.bscBay b).rise = some r → exec (.shedWaitEnd b) s = .next
      (({ s with now := max s.now r.shedUntil } : State).setBscBay b { s.bscBay b with
        applied := r.target, rise := none
        offSince := if 0 < (s.bscBay b).applied.current ∧ r.target.current = 0 then some (max s.now r.shedUntil)
          else (s.bscBay b).offSince })) ∧
    ((s.bscBay b).rise = none → exec (.shedWaitEnd b) s = .next s) ∧
    ∀ x : SupplyCondition,
      ((s.bscBay b).supply = .run → (x = .underVoltage → 0 < (s.bscBay b).applied.current) →
        ∃ t, exec (.supplyFault b x) s = .next t ∧ (t.bscBay b).supply = .fault ∧ (t.bscBay b).applied.current = 0 ∧
          (t.bscBay b).rise = none ∧ (t.bscBay b).request = 0 ∧ (t.bscBay b).floor = 0 ∧
          (s.onlyCharging → FiguresOk s → FiguresOk t)) ∧
      ((s.bscBay b).supply ≠ .run → exec (.supplyFault b x) s = .next s)) ∧
  (∀ (now : Nat) (x : BscBay),
    let p := setpointOf x
    let y := x.takeSetpoint now
    (p.power ≤ x.applied.power → y.applied = p ∧ y.rise = none) ∧
    (x.applied.power < p.power → y.applied = x.applied ∧
      y.rise = some ⟨p, match x.rise with | none => now + 50 | some r => r.shedUntil⟩)) ∧
  (∀ (s : State) (b : BayId), (s.bscBay b).supply = .idle ∨ (s.bscBay b).supply = .fault ∨ s.bsc.derate = .cut →
    (setpointOf (computedBay s b)).current = 0) ∧
  ∀ b : BayId, (core.reset.bscBay b).applied.current = 0 ∧ (core.reset.bscBay b).rise = none

/-- R49 to R52, Table 3-3: a sample. T is the higher reading of two good sensors, or the reading of the one good
sensor. At T_cut the level goes to CUT and both counts clear; at T_hi the hot count rises, and at 8 the level goes up
one; at T_lo the cool count rises, and at 40 the level goes down one; between them both counts clear. A reading out of
range marks its sensor faulty until reset; at the sample that leaves both faulty the level is 2 with both counts 0,
and then it stays. After reset both counts are 0. -/
def Obligations.SensorRows : Prop :=
  (∀ (s : State) (r1 r2 : Int), s.runs = true → ∃ t, exec (.sensorSample r1 r2) s = .next t ∧
    let x := s.bsc
    let y := t.bsc
    let good (r : Int) : Prop := -20 ≤ r ∧ r ≤ 120
    let good1 : Prop := x.sensor1.faulty = false ∧ good r1
    let good2 : Prop := x.sensor2.faulty = false ∧ good r2
    let judged (T : Int) : Prop :=
      if s.settings.tCut ≤ T then y.derate = .cut ∧ y.hot = 0 ∧ y.cool = 0
      else if s.settings.tHi ≤ T then y.cool = 0 ∧
        if x.hot + 1 < 8 then y.hot = x.hot + 1 ∧ y.derate = x.derate
        else y.hot = 0 ∧ y.derate.code = min 4 (if x.derate = .l3 then 3 else x.derate.code + 1)
      else if T ≤ s.settings.tLo then y.hot = 0 ∧
        if x.cool + 1 < 40 then y.cool = x.cool + 1 ∧ y.derate = x.derate
        else y.cool = 0 ∧ y.derate.code = x.derate.code - 1
      else y.hot = 0 ∧ y.cool = 0 ∧ y.derate = x.derate
    (good1 → good2 → judged (max r1 r2)) ∧
    (good1 → ¬ good2 → judged r1) ∧
    (¬ good1 → good2 → judged r2) ∧
    (¬ good1 → ¬ good2 → x.sensor1.faulty = false ∨ x.sensor2.faulty = false →
      y.derate = .l2 ∧ y.hot = 0 ∧ y.cool = 0) ∧
    (x.sensor1.faulty = true → x.sensor2.faulty = true → y.derate = x.derate ∧ y.hot = x.hot ∧ y.cool = x.cool) ∧
    (x.sensor1.faulty = true → y.sensor1 = x.sensor1) ∧ (x.sensor2.faulty = true → y.sensor2 = x.sensor2) ∧
    (good1 → y.sensor1 = ⟨some r1, false⟩) ∧ (good2 → y.sensor2 = ⟨some r2, false⟩) ∧
    (¬ good1 → y.sensor1.faulty = true ∧ y.sensor1.last = x.sensor1.last) ∧
    (¬ good2 → y.sensor2.faulty = true ∧ y.sensor2.last = x.sensor2.last)) ∧
  core.reset.bsc.hot = 0 ∧ core.reset.bsc.cool = 0

/-! ### Docks and the dock lines (chapters 4 and 6) -/

/-- R16, R48, R59, R65, R75, R76, R79, R159, R165: a tablet seated in an EMPTY bay makes it SEATED, in RUN, and its
IDENT is requested; one that leaves makes the bay EMPTY and IDLE with its record gone, its tag the last tablet, fixed
mode cleared, the weight at its default, the output off, and a CHECKOUT that was OPENED turns TAKEN. A CHECKOUT entry
that waits for the bay is dropped: a QUEUED bay is LOCKED, and a bay in COOLDOWN is set from its bolt. D, F and W stay
those composed of the bay figures. That the IDENT stands is said where no release waits, no request is deferred and
the work queue has room, and the last where no release waits and no package is listed. That presence gained on a bay
that is not EMPTY, and presence lost on an EMPTY one, change nothing is the model's reading (log entry 30). -/
def Obligations.PresenceRows : Prop :=
  ∀ (s : State) (b : BayId), s.runs = true →
    ((s.dlcBay b).dock = .empty → ∃ t, exec (.presenceGained b) s = .next t ∧ (t.dlcBay b).dock = .seated ∧
      (t.dlcBay b).misses = 0 ∧ (t.bscBay b).supply = .run ∧ (t.dlcBay b).record = (s.dlcBay b).record ∧
      (s.lkc.queue = [] → s.dlc.queue.length < 16 → s.dlc.deferred = [] → t.dlc.stands b .ident = true) ∧
      (s.onlyCharging → FiguresOk s → FiguresOk t)) ∧
    ((s.dlcBay b).dock ≠ .empty → exec (.presenceGained b) s = .next s) ∧
    ((s.dlcBay b).dock = .empty → exec (.presenceLost b) s = .next s) ∧
    ((s.dlcBay b).dock ≠ .empty → ∃ t, exec (.presenceLost b) s = .next t ∧ (t.dlcBay b).dock = .empty ∧
      (t.dlcBay b).record = none ∧ (t.dlcBay b).lastTablet = (s.dlcBay b).record.map TabletRecord.tag ∧
      (t.dlcBay b).misses = 0 ∧ (t.dlcBay b).pollUntil = none ∧ (t.dlcBay b).identUntil = none ∧
      (t.bscBay b).supply = .idle ∧ (t.bscBay b).fixed = none ∧ (t.bscBay b).weight = s.settings.defaultWeight ∧
      (t.bscBay b).applied.current = 0 ∧ (t.bscBay b).rise = none ∧
      ((s.lkcBay b).release = some ⟨.checkout, .opened⟩ → s.lkc.hasEntry b = false →
        (t.lkcBay b).release = some ⟨.checkout, .taken⟩) ∧
      (∀ e, ReleasesOk s → s.lkc.entry? b = some e → e.kind = .checkout → t.lkc.hasEntry b = false ∧
        (t.lkcBay b).release = (s.lkcBay b).release.map (fun r => { r with outcome := .dropped }) ∧
        (t.lkcBay b).lock =
          if (s.lkcBay b).lock = some .queued then some .locked
          else if (s.lkcBay b).lock = some .cooldown then
            some (if (s.lkcBay b).boltRetracted then .unsecured else .locked)
          else (s.lkcBay b).lock) ∧
      (s.onlyCharging → FiguresOk s → FiguresOk t))

/-- R85, R88, R117: the timers of a bay: the poll timer restarts by the dock state and STATUS stands where the work
queue has room; the IDENT retry timer of a SEATED bay is followed by an IDENT; the retry delay is over. The statement
that the item stands is made where no release waits and no request is deferred, and the other forms are left out; that
STATUS stands is said of the states that the work queue and list invariants admit. That an expiry moves the clock up
to its moment is the model's choice (log entry 2). -/
def Obligations.BayTimers : Prop :=
  ∀ (s : State) (b : BayId) (d : Nat), s.runs = true →
    ((s.dlcBay b).pollUntil = some d → (s.dlcBay b).dock = .active ∨ (s.dlcBay b).dock = .asleep →
      ∃ t, exec (.pollTimerExpiry b) s = .next t ∧ t.now = max s.now d ∧
        (t.dlcBay b).pollUntil = some (t.now + if (s.dlcBay b).dock = .asleep then 10000 else 2000) ∧
        (WorkQueueOk s → ListsOk s → s.lkc.queue = [] → s.dlc.queue.length < 16 → s.dlc.deferred = [] →
          t.dlc.stands b .status = true)) ∧
    ((s.dlcBay b).identUntil = some d → (s.dlcBay b).dock = .seated →
      ∃ t, exec (.identRetryExpiry b) s = .next t ∧ t.now = max s.now d ∧ (t.dlcBay b).identUntil = none ∧
        (s.lkc.queue = [] → s.dlc.queue.length < 16 → s.dlc.deferred = [] → t.dlc.stands b .ident = true)) ∧
    ((s.pksBay b).retryUntil = some d → ∃ t, exec (.retryDelayExpiry b) s = .next t ∧ t.now = max s.now d ∧
      (t.pksBay b).retryUntil = none)

/-- R72, R73: a timeout or a bad reply at the first try leaves the engine waiting for a quiet line, and the quiet line
has the same request sent again as the second try; nothing else changes. That a timeout, a bad reply, a quiet line and
a line not quiet change nothing where no engine awaits them is the model's reading (log entry 16); R71 says it of
characters. -/
def Obligations.ExchangeRetry : Prop :=
  ∀ (s : State) (b : BayId), s.runs = true →
    (∀ i item x, exchangeAt? s b .awaitingReply = some (i, item, x) → x.secondTry = false →
      ∀ c ∈ [Instr.replyWindowTimeout b, .badReply b], exec c s = .next
        { s with dlc := s.dlc.setEngine i (.busy item { x with phase := .quietWait }) }) ∧
    (∀ i item x, exchangeAt? s b .quietWait = some (i, item, x) → exec (.quietWaitEnd b) s = .next
      { s with dlc := s.dlc.setEngine i (.busy item { x with secondTry := true, phase := .awaitingReply }) }) ∧
    (exchangeAt? s b .awaitingReply = none →
      ∀ c ∈ [Instr.replyWindowTimeout b, .badReply b], exec c s = .next s) ∧
    (exchangeAt? s b .quietWait = none → ∀ c ∈ [Instr.quietWaitEnd b, .quietWaitFail b], exec c s = .next s)

/-- R73, R77, R85 to R87, R114, R117, R158: an exchange that ends NO_ANSWER, at the second try or on a line that is
not quiet: a STATUS is a miss, the third of which puts an ACTIVE bay in ASLEEP; an IDENT on a SEATED bay starts the
IDENT retry timer; a MODE_FREE ends the mode wait of the bay's release; a package transfer is a failed attempt and
starts the retry delay. -/
def Obligations.NoAnswerRows : Prop :=
  ∀ (s : State) (b : BayId) (c : Instr) (i : EngineId) (item : WorkItem) (x : Exchange), s.runs = true →
    ((c = .replyWindowTimeout b ∨ c = .badReply b) ∧ exchangeAt? s b .awaitingReply = some (i, item, x) ∧
        x.secondTry = true ∨
      c = .quietWaitFail b ∧ exchangeAt? s b .quietWait = some (i, item, x)) →
    ∃ t, exec c s = .next t ∧
      (item.kind = .status → (t.dlcBay b).misses = min 3 ((s.dlcBay b).misses + 1) ∧
        (t.dlcBay b).dock =
          (if 2 ≤ (s.dlcBay b).misses ∧ (s.dlcBay b).dock = .active then .asleep else (s.dlcBay b).dock) ∧
        (t.dlcBay b).record = (s.dlcBay b).record) ∧
      (item.kind = .ident → (s.dlcBay b).dock = .seated → (t.dlcBay b).identUntil = some (s.now + 10000)) ∧
      (item.kind = .modeFree → ∀ e ∈ t.lkc.queue, e.bay = b → e.modeWait = false) ∧
      (item.kind = .package → ∀ r, (s.dlcBay b).transfer = some r →
        (t.pksBay b).retryUntil = some (s.now + 5000) ∧ (t.dlcBay b).lastEnd = some ⟨r.id, .failedAttempt⟩)

/-- R78, R79, R85 to R87, R158: a valid IDENT reply on a SEATED bay makes its record and the bay ACTIVE; a valid
STATUS reply writes percent, inhibit flag and mode flag; a valid MODE reply writes the mode flag, and one to MODE_FREE
ends the mode wait. Each returns the miss count to 0 and an ASLEEP bay to ACTIVE, and the poll timer starts at a
change of dock state. -/
def Obligations.TabletReplies : Prop :=
  ∀ (s : State) (b : BayId) (i : EngineId) (item : WorkItem) (x : Exchange) (percent : Byte), s.runs = true →
    exchangeAt? s b .awaitingReply = some (i, item, x) →
    let p : Option Nat := if percent = 255 then none else some (min 100 percent.toNat)
    (∀ (tag : Tag) (cls : Byte) (inhibit mode : Bool), x.request = .ident → (s.dlcBay b).dock = .seated →
      tagOk tag = true → cls.toNat ≤ 7 →
      ∃ t, exec (.identReply b (tag ++ [cls, percent, flagByte inhibit, flagByte mode])) s = .next t ∧
        (t.dlcBay b).record = some ⟨tag, cls.toNat, p, inhibit, mode, s.now⟩ ∧ (t.dlcBay b).dock = .active ∧
        (t.dlcBay b).misses = 0 ∧ (t.dlcBay b).identUntil = none ∧ (t.dlcBay b).pollUntil = some (s.now + 2000)) ∧
    (∀ (r : TabletRecord) (inhibit mode : Bool), x.request = .status → (s.dlcBay b).record = some r →
      (s.dlcBay b).dock = .active ∨ (s.dlcBay b).dock = .asleep →
      ∃ t, exec (.statusReply b [percent, flagByte inhibit, flagByte mode]) s = .next t ∧
        (t.dlcBay b).record = some { r with percent := p, inhibit := inhibit, free := mode, answeredAt := s.now } ∧
        (t.dlcBay b).misses = 0 ∧ (t.dlcBay b).dock = .active ∧
        (t.dlcBay b).pollUntil = if (s.dlcBay b).dock = .asleep then some (s.now + 2000) else (s.dlcBay b).pollUntil) ∧
    ∀ (r : TabletRecord) (asked held : Bool), x.request = .mode asked → (s.dlcBay b).record = some r →
      (s.dlcBay b).dock = .active ∨ (s.dlcBay b).dock = .asleep →
      ∃ t, exec (.modeReply b [flagByte held]) s = .next t ∧
        (t.dlcBay b).record = some { r with free := held, answeredAt := s.now } ∧
        (t.dlcBay b).misses = 0 ∧ (t.dlcBay b).dock = .active ∧
        (asked = true → ∀ e ∈ t.lkc.queue, e.bay = b → e.modeWait = false)

/-- R112 to R116, R119, R120, R123, R125, R126, R128: the replies to the package requests. After ACCEPT or OK the
transfer stands at a block boundary: it ends ABORTED where its package is WITHDRAWING, else where the bay is neither
LOCKED nor QUEUED, else where the takeover mark is set; else it is suspended for the first waiting item of class 0 or
1 that the other engine cannot serve, put back as a PACKAGE item; else PKG_BLOCK at the next index or PKG_END follows.
A first BAD has the same block sent again, whatever waits. HAD_IT, REFUSE, STOP, LOST, a second BAD and the reply to
PKG_END end the transfer with their result. After an end the engine goes on with the next package of the bay's list
while the bay is eligible and nothing calls for a suspension. An engine that takes the item of a suspended transfer
resumes it at its boundary. R111: a transfer starts on a LOCKED bay alone. Clauses on a whole next state say where no
queued CHECKOUT of the bay is past its limit, which would set the takeover mark at the same event. -/
def Obligations.PackageReplies : Prop :=
  (∀ (s : State) (b : BayId) (i : EngineId) (item : WorkItem) (x : Exchange) (r : Transfer), s.runs = true →
    exchangeAt? s b .awaitingReply = some (i, item, x) → (s.dlcBay b).transfer = some r →
    let withdrawn (id : Nat) : Prop := ∃ p, findPackage s.pks.table id = some p ∧ p.state = .withdrawing
    let atRest : Prop := (s.lkcBay b).lock = some .locked ∨ (s.lkcBay b).lock = some .queued
    let other := s.dlc.engine i.other
    let givesWay (y : WorkItem) : Prop :=
      (y.kind = .ident ∨ y.kind = .status ∨ y.kind = .modeCart ∨ y.kind = .modeFree) ∧ other.bay? ≠ some y.bay ∧
        (other ≠ .idle ∨ y.bay = b)
    let calm : Prop := ∀ e ∈ s.lkc.queue, e.bay = b → e.limitFallen = false
    let goesOn : Prop := ¬ withdrawn r.id ∧ atRest ∧ r.takeover = false ∧ ∀ y ∈ s.dlc.queue, ¬ givesWay y
    let ended (t : State) (result : TransferResult) : Prop := (t.dlcBay b).lastEnd = some ⟨r.id, result⟩
    let request (u : Transfer) : Request :=
      if u.next < u.length then
        .pkgBlock u.next (storeBlock s.pks.store (((findPackage s.pks.table u.id).map Package.base).getD 0) u.next)
      else .pkgEnd u.id
    let boundary (c : Instr) (u : Transfer) : Prop :=
      (goesOn → calm → ∃ t, exec c s = .next t ∧ (t.dlcBay b).transfer = some u ∧
        t.dlc.engine i = .busy item ⟨request u, false, .awaitingReply⟩) ∧
      (withdrawn r.id → ∃ t, exec c s = .next t ∧ ended t (.aborted .withdrawn)) ∧
      (¬ withdrawn r.id → ¬ atRest → ∃ t, exec c s = .next t ∧ ended t (.aborted .lockState)) ∧
      (¬ withdrawn r.id → atRest → r.takeover = true → ∃ t, exec c s = .next t ∧ ended t (.aborted .takeover)) ∧
      (¬ withdrawn r.id → atRest → r.takeover = false → calm → ∀ l1 y l2, s.dlc.queue = l1 ++ y :: l2 →
        (∀ z ∈ l1, ¬ givesWay z) → givesWay y →
        (y.kind = .modeCart ∨ y.kind = .modeFree → (s.dlcBay y.bay).record.isSome = true) →
        ∃ t, exec c s = .next t ∧ (t.dlcBay b).transfer = some { u with suspended := true } ∧
          t.dlc.stands b .package = true ∧ ∃ z, t.dlc.engine i = .busy y z ∧ z.request.itemKind = y.kind)
    (∀ id n check, x.request = .pkgBegin id n check →
      boundary (.pkgBeginReply b [0]) r ∧
      (∃ t, exec (.pkgBeginReply b [1]) s = .next t ∧ ended t .hadIt) ∧
      (∃ t, exec (.pkgBeginReply b [2]) s = .next t ∧ ended t .refused) ∧
      ∀ p tg, findPackage s.pks.table r.id = some p → p.state = .ready → p.targets.get b = some tg →
        (s.dlcBay b).dock = .active →
        ((s.pksBay b).list = [r.id] → ∃ t, exec (.pkgBeginReply b [1]) s = .next t ∧
          (t.dlcBay b).transfer = none) ∧
        ∀ next rest q, (s.pksBay b).list = r.id :: next :: rest → next ≠ r.id →
          findPackage s.pks.table next = some q → (s.lkcBay b).lock = some .locked → s.lkc.hasEntry b = false →
          (s.pksBay b).retryUntil = none → 6 ≤ (s.bscBay b).grant → (∀ y ∈ s.dlc.queue, ¬ givesWay y) →
          rest.contains r.id = false →
          ∃ t, exec (.pkgBeginReply b [1]) s = .next t ∧
            (t.dlcBay b).transfer = some ⟨next, q.length, 0, false, false, false⟩ ∧
            t.dlc.engine i = .busy item ⟨.pkgBegin next q.length q.check, false, .awaitingReply⟩) ∧
    (∀ (index : Byte) (data : List Byte), x.request = .pkgBlock index.toNat data →
      boundary (.pkgBlockReply b [0, index]) { r with resend := false, next := r.next + 1 } ∧
      (r.resend = false → (s.dlcBay b).dock = .active ∨ calm → ∃ t, exec (.pkgBlockReply b [1, index]) s = .next t ∧
        (t.dlcBay b).transfer = some { r with resend := true } ∧
        t.dlc.engine i = .busy item ⟨request r, false, .awaitingReply⟩) ∧
      (r.resend = true → ∃ t, exec (.pkgBlockReply b [1, index]) s = .next t ∧ ended t .failedAttempt) ∧
      (∃ t, exec (.pkgBlockReply b [2, index]) s = .next t ∧ ended t (.endedByTablet (r.length - index.toNat))) ∧
      ∃ t, exec (.pkgBlockReply b [3, index]) s = .next t ∧ ended t .failedAttempt) ∧
    ∀ id, x.request = .pkgEnd id →
      (∃ t, exec (.pkgEndReply b [0]) s = .next t ∧ ended t .delivered) ∧
      ∃ t, exec (.pkgEndReply b [1]) s = .next t ∧ ended t .failedAttempt ∧
        (t.pksBay b).retryUntil = some (s.now + 5000)) ∧
  (∀ (i : EngineId) (y : WorkItem) (ev : Ev) (r : Transfer), y.kind = .package →
    (ev.s.dlcBay y.bay).transfer = some r → ev.s.dlc.engine i = .idle → ev.s.dlc.deferred = [] →
    (∀ z ∈ ev.s.dlc.queue, z.kind = .package) →
    (∀ p ∈ ev.s.pks.table, p.state ≠ .withdrawing) → r.takeover = false →
    (ev.s.lkcBay y.bay).lock = some .locked ∨ (ev.s.lkcBay y.bay).lock = some .queued →
    ((ev.takeItem i y).s.dlcBay y.bay).transfer = some { r with suspended := false } ∧
    (ev.takeItem i y).s.dlc.engine i = .busy y ⟨if r.next < r.length then
      .pkgBlock r.next
        (storeBlock ev.s.pks.store (((findPackage ev.s.pks.table r.id).map Package.base).getD 0) r.next)
      else .pkgEnd r.id, false, .awaitingReply⟩) ∧
  ∀ (c : Instr) (s t : State) (b : BayId) (r : Transfer), ReleasesOk s → exec c s = .next t →
    (s.dlcBay b).transfer = none → (t.dlcBay b).transfer = some r → (t.lkcBay b).lock = some .locked

/-! ### Doors, bolts and drivers (chapters 7 and 8) -/

/-- R130, R131, R140, R142, R144 to R148: a door that opens is read, its extend wait ends, and the bay is OPEN, but in
PULSE and LOCK_FAULT, where the lock state stands, and no entry waits for a bay that is OPEN; a door that closes is
read, and a bay in OPEN comes to LOCKED with its bolt extended, and starts its extend wait of 500 ms with its bolt
retracted. R164, R165: an opening in HOLD, the first in PULSE, one in COOLDOWN with the bolt retracted and one in
UNSECURED under an entry take a WAITING record to OPENED; an opening in PREPARE or QUEUED, one in COOLDOWN with the
bolt extended and one in LOCK_FAULT under an entry end the release DROPPED; every other leaves the record. A close in
OPEN of an OPENED record gives NOT_TAKEN to a CHECKOUT, RETURNED to a RETURN, NOT_RETURNED where the bay is EMPTY, and
CLOSED to a SERVICE. R89, R166, R167: with a tablet record present, a CHECKOUT that ends DROPPED, a close judged
NOT_TAKEN, and a close that brings the bay to LOCKED have a MODE_CART item of the bay stand, or its request deferred.
The model's readings: a door row from the same level changes nothing (log entry 30), an opening takes a record to
OPENED from WAITING only (log entry 26), and an opening in PREPARE takes a bay out of LOCK_FAULT to OPEN as any other
(log entry 41, the model's choice). -/
def Obligations.DoorRows : Prop :=
  ∀ (s : State) (b : BayId), s.runs = true → ReleasesOk s →
    let x := s.lkcBay b
    let dropped := x.release.map fun r => { r with outcome := .dropped }
    let opened := x.release.map fun r => if r.outcome = .waiting then { r with outcome := .opened } else r
    (x.doorOpen = false → ∃ t, exec (.doorOpened b) s = .next t ∧ (t.lkcBay b).doorOpen = true ∧
      (t.lkcBay b).extendUntil = none ∧
      (∀ l, x.lock = some l →
        (t.lkcBay b).lock = some (if l = .pulse ∨ l = .lockFault then l else .opened) ∧
        (l ≠ .pulse → t.lkc.hasEntry b = false) ∧
        (l = .prepare ∨ l = .queued → (t.lkcBay b).release = dropped) ∧
        (l = .hold → (t.lkcBay b).release = opened) ∧
        (l = .cooldown → (t.lkcBay b).release = if x.boltRetracted then opened else dropped) ∧
        (l = .lockFault → (t.lkcBay b).release = if s.lkc.hasEntry b then dropped else x.release) ∧
        (l = .unsecured → (t.lkcBay b).release = if s.lkc.hasEntry b then opened else x.release) ∧
        (l = .locked ∨ l = .opened → (t.lkcBay b).release = x.release) ∧
        ((s.dlcBay b).record.isSome = true →
          (∀ e, s.lkc.entry? b = some e → e.kind = .checkout →
            l = .queued ∨ l = .lockFault ∨ (l = .cooldown ∧ x.boltRetracted = false) → t.asksFor b .modeCart) ∧
          ∀ i e until_ mark, driverAt? s b = some (i, e, .prepare until_, mark) → e.kind = .checkout →
            t.asksFor b .modeCart)) ∧
      (∀ i e from_ until_ seen mark, driverAt? s b = some (i, e, .pulse from_ until_ seen, mark) →
        (t.lkcBay b).release = (if mark then x.release else opened) ∧
        t.lkc.driver i = .assigned e (.pulse from_ until_ true) true) ∧
      (x.lock = some .hold → t.lkc.driver1.bay? ≠ some b ∧ t.lkc.driver2.bay? ≠ some b)) ∧
    (x.doorOpen = true → exec (.doorOpened b) s = .next s) ∧
    (x.doorOpen = true → ∃ t, exec (.doorClosed b) s = .next t ∧ (t.lkcBay b).doorOpen = false ∧
      (x.lock = some .opened →
        (x.boltRetracted = false → (t.lkcBay b).lock = some .locked) ∧
        (x.boltRetracted = true →
          (t.lkcBay b).lock = some .opened ∧ (t.lkcBay b).extendUntil = some (s.now + 500)) ∧
        ((t.lkcBay b).release = x.release.map fun r =>
          if r.outcome = .opened then
            { r with outcome :=
              match r.kind with
              | .checkout => .notTaken
              | .returning => if (s.dlcBay b).dock = .empty then .notReturned else .returned
              | .service => .closed }
          else r) ∧
        ((s.dlcBay b).record.isSome = true → x.boltRetracted = false ∨ x.release = some ⟨.checkout, .opened⟩ →
          t.asksFor b .modeCart)) ∧
      (x.lock ≠ some .opened → t = s.setLkcBay b { x with doorOpen := false, doorRun := 0 })) ∧
    (x.doorOpen = false → exec (.doorClosed b) s = .next s)

/-- R130, R131, R140, R146, R148: a bolt that retracts is read; with the door closed and no extend wait it takes a bay
from LOCKED or QUEUED to UNSECURED, and in PULSE it is retraction seen, timed from the start of its steady reading. A
bolt that extends is read and ends the extend wait; it takes a closed bay from UNSECURED, or from an extend wait in
OPEN, to LOCKED where no entry waits. An extend wait that runs out on a closed bay at rest or OPEN with its bolt
retracted makes it UNSECURED; a waiting entry may be taken at the same event. The model's readings: a retract time
whose start lies before energizing is 0 (log entry 28), the lock states in which the end of an extend wait acts (log
entry 27), and that a bolt row from the same level changes nothing (log entry 30); the clock at the end of the extend
wait is its choice (log entry 2). -/
def Obligations.BoltRows : Prop :=
  ∀ (s : State) (b : BayId), s.runs = true → ReleasesOk s →
    let x := s.lkcBay b
    (x.boltRetracted = false → ∃ t, exec (.boltRetracted b) s = .next t ∧ (t.lkcBay b).boltRetracted = true ∧
      (x.lock = some .locked → x.doorOpen = false → x.extendUntil = none → (t.lkcBay b).lock = some .unsecured) ∧
      (x.lock = some .queued → x.doorOpen = false → x.extendUntil = none →
        (t.lkcBay b).lock = some .unsecured ∨ (t.lkcBay b).lock = some .prepare) ∧
      ∀ i e from_ until_ opened, driverAt? s b = some (i, e, .pulse from_ until_ false, opened) →
        t.lkc.driver i = .assigned e (.pulse from_ until_ true) opened ∧
        (t.lkcBay b).lastRetract = some (s.now - 2 - from_) ∧ (t.lkcBay b).jams = 0) ∧
    (x.boltRetracted = true → exec (.boltRetracted b) s = .next s) ∧
    (x.boltRetracted = true → ∃ t, exec (.boltExtended b) s = .next t ∧ (t.lkcBay b).boltRetracted = false ∧
      (t.lkcBay b).extendUntil = none ∧
      (s.lkc.hasEntry b = false → x.doorOpen = false →
        x.lock = some .unsecured ∨ (x.lock = some .opened ∧ x.extendUntil.isSome = true) →
        (t.lkcBay b).lock = some .locked)) ∧
    (x.boltRetracted = false → exec (.boltExtended b) s = .next s) ∧
    ∀ d, x.extendUntil = some d → ∃ t, exec (.extendWaitExpiry b) s = .next t ∧ t.now = max s.now d ∧
      (t.lkcBay b).extendUntil = none ∧
      (x.boltRetracted = true → x.doorOpen = false → x.lock = some .locked ∨ x.lock = some .queued ∨ x.lock = some .opened →
        (t.lkcBay b).lock = some .unsecured ∨
          (s.lkc.hasEntry b = true ∧ (t.lkcBay b).lock = some .prepare))

/-- R137, R139 to R142, R144, R145: a driver's timers. PREPARE ends: the pulse of the entry's length begins, with
retraction seen where the bolt reads retracted. The pulse ends: OPEN with the door open; HOLD for the hold window with
retraction seen; a first jam, COOLDOWN for 1000 ms with the entry queued for a retry of twice the length up to 1000
ms, its time made and hold window kept, and its wait limit fallen where 10 s have passed since; a further jam,
LOCK_FAULT, also with the door open where the bay comes from LOCK_FAULT and no retraction is seen. The hold window
ends: LOCKED, and NOT_OPENED where the door has not opened; where it has, the close is judged of an OPENED record.
R89, R166, R167: with a tablet record present, the FAULT of a CHECKOUT and every end of a hold window have a MODE_CART
item of the bay stand, or its request deferred. That a timer's end moves the clock up to its moment is the model's
choice (log entry 2); the model's readings are that a record turns OPENED from WAITING only, and that a bay out of
LOCK_FAULT jams without retraction although its door is open (log entry 26). -/
def Obligations.DriverRows : Prop :=
  ∀ (s : State) (b : BayId) (i : DriverId) (e : ReleaseEntry) (opened : Bool), s.runs = true → ReleasesOk s →
    let x := s.lkcBay b
    (∀ d, driverAt? s b = some (i, e, .prepare d, opened) → ∃ t, exec (.prepareEnd b) s = .next t ∧
      t.now = max s.now d ∧ (t.lkcBay b).lock = some .pulse ∧
      t.lkc.driver i = .assigned e (.pulse t.now (t.now + e.pulse) x.boltRetracted) false) ∧
    (∀ from_ d seen, driverAt? s b = some (i, e, .pulse from_ d seen, opened) → ∃ t, exec (.pulseEnd b) s = .next t ∧
      t.now = max s.now d ∧
      (x.doorOpen = true → seen = true ∨ x.jams < 2 → (t.lkcBay b).lock = some .opened ∧
        (t.lkcBay b).release = x.release.map fun r =>
          if r.outcome = .waiting then { r with outcome := .opened } else r) ∧
      (x.doorOpen = false → seen = true → (t.lkcBay b).lock = some .hold ∧
        t.lkc.driver i = .assigned e (.hold (t.now + e.holdWindow)) opened) ∧
      (x.doorOpen = false → seen = false → x.jams = 0 → (t.lkcBay b).lock = some .cooldown ∧
        (t.lkcBay b).jams = 1 ∧ (t.lkcBay b).cooldownUntil = some (t.now + 1000) ∧
        ∃ e' ∈ t.lkc.queue, e'.bay = b ∧ e'.kind = e.kind ∧ e'.retry = true ∧ e'.pulse = min 1000 (2 * e.pulse) ∧
          e'.made = e.made ∧ e'.holdWindow = e.holdWindow ∧ (e.made + 10000 ≤ t.now → e'.limitFallen = true)) ∧
      (seen = false → 0 < x.jams → x.doorOpen = false ∨ 2 ≤ x.jams → (t.lkcBay b).lock = some .lockFault ∧
        (t.lkcBay b).jams = 2 ∧ t.lkc.hasEntry b = false ∧
        ((t.lkcBay b).release = x.release.map fun r => { r with outcome := .fault }) ∧
        (e.kind = .checkout → (s.dlcBay b).record.isSome = true → t.asksFor b .modeCart))) ∧
    ∀ d, driverAt? s b = some (i, e, .hold d, opened) → ∃ t, exec (.holdWindowExpiry b) s = .next t ∧
      t.now = max s.now d ∧ (t.lkcBay b).lock = some .locked ∧
      (opened = false → (t.lkcBay b).release = x.release.map fun r => { r with outcome := .notOpened }) ∧
      (opened = true → (t.lkcBay b).release = x.release.map fun r =>
        if r.outcome = .opened then
          { r with outcome :=
            match r.kind with
            | .checkout => .notTaken
            | .returning => if (s.dlcBay b).dock = .empty then .notReturned else .returned
            | .service => .closed }
        else r) ∧
      ((s.dlcBay b).record.isSome = true → t.asksFor b .modeCart)

/-- R137, R143, R160: COOLDOWN ends: with the bolt extended the bay waits in QUEUED, with it retracted it is
UNSECURED; the entry is taken at the same event when it stands first and is ready and a driver is free, and it is
removed and its release DROPPED when its limit has fallen and it waits for power, the QUEUED bay then LOCKED. The wait
limit of an entry falls: in WAIT_POWER the entry is removed and its release DROPPED, a QUEUED bay is LOCKED and an
UNSECURED or LOCK_FAULT one keeps its state; a CHECKOUT in WAIT_PROVISION has the takeover mark set on the transfer,
or ends it ABORTED where it is suspended; an entry in WAIT_MODE, or in WAIT_DRIVER with both drivers in use, stays.
R167: a CHECKOUT so dropped, with a tablet record present, has a MODE_CART item of the bay stand, or its request
deferred. All is said of the states that the release, work queue and list invariants admit. That an expiry moves the
clock up to its moment is the model's choice (log entry 2). -/
def Obligations.CooldownAndLimit : Prop :=
  ∀ (s : State) (b : BayId) (d : Nat), s.runs = true → ReleasesOk s → WorkQueueOk s → ListsOk s →
    let x := s.lkcBay b
    let dropped (t : State) : Prop := t.lkc.hasEntry b = false ∧
      (t.lkcBay b).release = x.release.map fun r => { r with outcome := .dropped }
    let powerless (e : ReleaseEntry) : Prop :=
      e.modeWait = false ∧ (s.dlcBay b).transfer = none ∧ s.shu.lapp < s.lkc.power + 10
    let restored (e : ReleaseEntry) (t : State) : Prop :=
      e.kind = .checkout → (s.dlcBay b).record.isSome = true → t.asksFor b .modeCart
    (x.cooldownUntil = some d → ∃ t, exec (.cooldownEnd b) s = .next t ∧ t.now = max s.now d ∧
      (t.lkcBay b).cooldownUntil = none ∧
      (x.boltRetracted = false →
        (t.lkcBay b).lock = some .queued ∨ (t.lkcBay b).lock = some .prepare ∨
          ((t.lkcBay b).lock = some .locked ∧ dropped t)) ∧
      (x.boltRetracted = true →
        (t.lkcBay b).lock = some .unsecured ∨ (t.lkcBay b).lock = some .prepare) ∧
      (∀ e rest, s.lkc.queue = e :: rest → e.bay = b → e.modeWait = false → (s.dlcBay b).transfer = none →
        s.lkc.power + 10 ≤ s.shu.lapp → s.lkc.driver1 = .free ∨ s.lkc.driver2 = .free →
        (t.lkcBay b).lock = some .prepare ∧ t.lkc.hasEntry b = false) ∧
      ∀ e, s.lkc.entry? b = some e → powerless e →
        (e.limitFallen = true → dropped t ∧ restored e t ∧
          (t.lkcBay b).lock = some (if x.boltRetracted then .unsecured else .locked)) ∧
        (e.limitFallen = false → e ∈ t.lkc.queue ∧
          (t.lkcBay b).lock = some (if x.boltRetracted then .unsecured else .queued))) ∧
    ∀ e, s.lkc.entry? b = some e → e.limitFallen = false → ∃ t, exec (.waitLimit b) s = .next t ∧
      t.now = max s.now (e.made + 10000) ∧ (∀ e' ∈ t.lkc.queue, e'.bay = b → e'.limitFallen = true) ∧
      (powerless e → x.lock ≠ some .cooldown → dropped t ∧ restored e t ∧
        (t.lkcBay b).lock = if x.lock = some .queued then some .locked else x.lock) ∧
      (e.kind = .checkout → e.modeWait = false → ∀ r, (s.dlcBay b).transfer = some r → r.takeover = false →
        (r.suspended = false → (t.dlcBay b).transfer = some { r with takeover := true } ∧
          { e with limitFallen := true } ∈ t.lkc.queue) ∧
        (r.suspended = true → (t.dlcBay b).lastEnd = some ⟨r.id, .aborted .takeover⟩)) ∧
      (e.modeWait = true → (s.dlcBay b).record.isSome = true → { e with limitFallen := true } ∈ t.lkc.queue ∧
        (t.lkcBay b).lock = x.lock) ∧
      (s.lkc.driver1 ≠ .free → s.lkc.driver2 ≠ .free → s.lkc.power + 10 ≤ s.shu.lapp → e.modeWait = false →
        (s.dlcBay b).transfer = none → { e with limitFallen := true } ∈ t.lkc.queue ∧ (t.lkcBay b).lock = x.lock)

/-! ### Rules over all commands -/

/-- Whole-machine frame: what a bay keeps is changed only by an event at that bay, a command for it, a reset or the
handover; all other commands leave it. -/
def Obligations.OtherBaysKept : Prop :=
  ∀ (c : Instr) (s t : State) (b : BayId), exec c s = .next t → c.concerns b = false → SameBay s t b

/-- Whole-machine frame: no command touches the queue of commands or turns the clock back; the settings stand but for
a reset or the handover; a byte of the package store changes only by PACKAGE_DATA or a reset; the derate level, the
counts and the sensors only by a sample or a reset; the mask level only by NOTICE_MASK or a reset. The queue of
commands and the clock are the model's own (log entries 1 and 2). -/
def Obligations.WholeMachineFrame : Prop :=
  ∀ (c : Instr) (s t : State), exec c s = .next t →
    t.pending = s.pending ∧ s.now ≤ t.now ∧
    (t.settings = s.settings ∨ c.mayReset ∨ ∃ doors bolts, c = .sulFinished doors bolts) ∧
    ((∀ a, storeRead t.pks.store a = storeRead s.pks.store a) ∨ c.mayReset ∨ ∃ p, c = .packageData p) ∧
    ((t.bsc.derate = s.bsc.derate ∧ t.bsc.hot = s.bsc.hot ∧ t.bsc.cool = s.bsc.cool ∧ t.bsc.sensor1 = s.bsc.sensor1 ∧
      t.bsc.sensor2 = s.bsc.sensor2) ∨ c.mayReset ∨ ∃ r1 r2, c = .sensorSample r1 r2) ∧
    (t.ntu.mask = s.ntu.mask ∨ c.mayReset ∨ ∃ p, c = .noticeMask p)

/-! ### Formats (chapter 11) -/

/-- R2 to R7, R187, Table 11-1: a character sent is read with its data and its mark bit, the head's data most
significant bit first and every other's least significant first: the first bit is the start bit, the tenth the mark
bit, the eleventh the stop bit. What the receiver makes of a frame as the sender sends it: every frame of a listed
kind with the priority and route of its kind, and every frame of an unlisted kind with priority 1 and route 00, to all
stations or to the receiver, with up to 40 payload bytes, arrives whole. -/
def Obligations.FrameRoundTrip : Prop :=
  (∀ (head : Bool) (b : Byte),
    readChar (charBits head b) = some ⟨b, head, false⟩ ∧ (charBits head b).length = 11 ∧
    (charBits head b).getD 0 true = false ∧ (charBits head b).getD 9 (!head) = head ∧
    (charBits head b).getD 10 false = true ∧
    ∀ k < 8, (charBits head b).getD (k + 1) (!b.getLsbD k) = b.getLsbD (if head then 7 - k else k)) ∧
  ∀ (own : StationId) (f : BusFrame) (priority : Nat) (toAll : Bool),
    f.payload.length ≤ 40 → (kindRule f.kind).getD (1, false) = (priority, toAll) →
    f.dest = (if toAll then none else some (BitVec.ofNat 8 own.toNat)) →
    receiveFrame own (sentChars (f.bytes priority)) = .valid f

/-- R3 to R8: whatever characters are received between two idles, every command they amount to is well-formed. R5: a
marked character always begins a new frame: of two frames sent, the first whole or cut short after one character or
more, the first gives its command or is discarded as truncated, and the second gives its command; characters without a
mark before the first marked one are ignored. The characters that are left when the line goes idle end their frame. -/
def Obligations.ReceivedCommandsWellFormed : Prop :=
  (∀ (own : StationId) (cs : List RxChar) (c : Instr), c ∈ rxCommands own cs → c.wf = true) ∧
  ∀ (own : StationId) (f g : BusFrame) (p q : Nat) (fAll gAll : Bool) (noise : List RxChar),
    f.payload.length ≤ 40 → (kindRule f.kind).getD (1, false) = (p, fAll) →
    f.dest = (if fAll then none else some (BitVec.ofNat 8 own.toNat)) →
    g.payload.length ≤ 40 → (kindRule g.kind).getD (1, false) = (q, gAll) →
    g.dest = (if gAll then none else some (BitVec.ofNat 8 own.toNat)) → (∀ c ∈ noise, c.mark = false) →
    rxCommands own (noise ++ sentChars (f.bytes p) ++ sentChars (g.bytes q)) =
      [frameCommand own f, frameCommand own g] ∧
    ∀ k, 1 ≤ k → k < (f.bytes p).length →
      rxCommands own ((sentChars (f.bytes p)).take k ++ sentChars (g.bytes q)) =
        [.rxFrameDiscarded .truncated, frameCommand own g] ∧
      rxCommands own ((sentChars (f.bytes p)).take k) = [.rxFrameDiscarded .truncated]

/-- R71, R72, R187, Table 11-7: a dock line character is a start bit, eight data bits, the least significant first,
and a stop bit, and is read as it is sent; with its stop bit at the wrong level it is broken. A reply of the request's
reply kind and length, sent without a broken or late character, yields its payload; with another payload in its place
but the same CRC-8 it is a bad reply unless the CRC-8 fits. Which level is the start bit's and which the stop bit's is
presumed (log entry 35). -/
def Obligations.DockReplyRoundTrip : Prop :=
  (∀ (b : Byte) (late : Bool),
    dockCharBits b = [false, b.getLsbD 0, b.getLsbD 1, b.getLsbD 2, b.getLsbD 3, b.getLsbD 4, b.getLsbD 5, b.getLsbD 6,
      b.getLsbD 7, true] ∧
    readDockChar late (dockCharBits b) = some ⟨b, false, late⟩ ∧
    readDockChar late ((dockCharBits b).take 9 ++ [false]) = some ⟨b, true, late⟩) ∧
  ∀ (b : BayId) (r : Request) (payload : List Byte), payload.length = r.replyLength →
    let sent (m : List Byte) : List DockChar := m.map fun x => ⟨x, false, false⟩
    replyPayload r (sent (dockMessage (r.code + 0x80) payload)) = some payload ∧
    (∀ other : List Byte, other.length = payload.length →
      crc8 (byteOf (r.code + 0x80) :: byteOf payload.length :: other) ≠
        crc8 (byteOf (r.code + 0x80) :: byteOf payload.length :: payload) →
      replyCommand b r (sent (0xA5 :: byteOf (r.code + 0x80) :: byteOf payload.length :: other ++
        [crc8 (byteOf (r.code + 0x80) :: byteOf payload.length :: payload)])) = .badReply b)

/-! ### Divisions and figures (chapters 2 and 3) -/

/-- R29: stage 1 of the division: with P the effective ceiling less the reservation, 0 if that is negative, each
member's grant is its floor when the floors fit, else its floor scaled by P over their sum, rounded down; the grants'
sum is never above P; with P = 0 every grant is 0; and the station's own stage-1 grant is its floor grant. Around it,
R25 to R28 and R31 to R33, what a share computation gives: in ISOLATED and CLASHED C_eff is the smaller of C_sel and
the panel limit, each other station is reserved an isolated share, and the share is the smaller of D and the isolated
share; in the other states C_eff is the smallest of C_sel, the panel limit and the C_sel of the LIVE entries; with
N_cfg of 1 nothing is reserved and the share is the smaller of D and C_eff; with another N_cfg the reservation is an
isolated share for each id up to N_cfg that is neither the own nor LIVE, and the A of each STALE entry above N_cfg,
and the shares of the station and of the LIVE entries are the grants of the division of P. Every other entry's share
is 0, and no other field of an entry changes. -/
def Obligations.FloorStage : Prop :=
  (∀ (pool : Nat) (ms : List Member),
    ((ms.map Member.f).sum ≤ pool → stageOne pool ms = ms.map Member.f) ∧
    (pool < (ms.map Member.f).sum → stageOne pool ms = ms.map fun m => m.f * pool / (ms.map Member.f).sum) ∧
    (stageOne pool ms).sum ≤ pool ∧
    (pool = 0 → ∀ g ∈ stageOne pool ms, g = 0)) ∧
  ∀ s : State,
    let u := shareComputation s
    let nCfg := s.settings.nCfg
    let live := s.shu.peers.filter fun p => p.state = .live
    let view : List Member := ⟨s.shu.d, s.shu.f, s.shu.w⟩ :: live.map fun p => ⟨p.d, p.f, p.w⟩
    let ceiling := match s.shu.panelLimit with | none => s.settings.cSel | some l => min s.settings.cSel l
    let riso := u.cEff / nCfg
    let absent (id : Nat) : Prop := id ≠ s.cbi.ownId.toNat ∧ ∀ p ∈ live, p.id.toNat ≠ id
    let alone : Prop := s.cbi.station = .isolated ∨ s.cbi.station = .clashed
    (alone → u.cEff = ceiling ∧ u.rsv = (nCfg - 1) * riso ∧ u.share = min s.shu.d riso) ∧
    (¬ alone → u.cEff ≤ ceiling ∧ (∀ p ∈ live, u.cEff ≤ p.cSel) ∧ (u.cEff = ceiling ∨ ∃ p ∈ live, u.cEff = p.cSel)) ∧
    (¬ alone → nCfg = 1 → u.rsv = 0 ∧ u.share = min s.shu.d u.cEff) ∧
    (alone ∨ nCfg = 1 → u.floorGrant = min s.shu.f u.share ∧ ∀ p ∈ u.peers, p.g = 0) ∧
    (¬ alone → nCfg ≠ 1 →
      (∀ ids : List Nat, ids.Nodup → (∀ id, id ∈ ids ↔ 1 ≤ id ∧ id ≤ nCfg ∧ absent id) →
        u.rsv = ids.length * riso +
          ((s.shu.peers.filter fun p => p.state = .stale ∧ nCfg < p.id.toNat).map Peer.a).sum) ∧
      (stageOne (u.cEff - u.rsv) view).head? = some u.floorGrant ∧
      divide (u.cEff - u.rsv) view = u.share :: (u.peers.filter fun p => p.state = .live).map Peer.g ∧
      ∀ p ∈ u.peers, p.state = .stale → p.g = 0) ∧
    (u.peers.map fun p => { p with g := 0 }) = s.shu.peers.map fun p => { p with g := 0 }

/-- R30, R31, R61: a division over floors and weights gives every member one grant, at least its stage-1 grant; where
no floor is above its demand, at most its demand; and the sum of the grants is never above the pool. It begins with
the stage-1 grants and the rest of the pool, and makes up to four passes: each adds to every member below its demand
the smaller of what it lacks and the rest times its weight over the sum of the weights of such members, rounded down,
all from one rest, which is never less than what the pass adds and falls by it; a pass that adds nothing, as one
without such members, ends them. R60, R61: the split divides Lapp less the lock power in use, 0 if that is negative,
among the bays by their demands, floors and urgency weights. R16: a report composes D, F and W afresh from the bay
figures and the lock floor, and when one of the three differs a share computation is to run and the claim triggers are
to be tested. -/
def Obligations.DivisionBounds : Prop :=
  (∀ (pool : Nat) (ms : List Member),
    (divide pool ms).length = ms.length ∧ (divide pool ms).sum ≤ pool ∧
    (∀ x ∈ (stageOne pool ms).zip (divide pool ms), x.1 ≤ x.2) ∧
    ((∀ m ∈ ms, m.f ≤ m.d) → ∀ x ∈ ms.zip (divide pool ms), x.2 ≤ x.1.d) ∧
    ∃ (last : Nat) (grants : Nat → List Nat) (rest : Nat → Nat),
      let gains (n : Nat) : List Nat :=
        let weights := (((ms.zip (grants n)).filter fun x => x.2 < x.1.d).map fun x => x.1.w).sum
        (ms.zip (grants n)).map fun x => if x.2 < x.1.d then min (x.1.d - x.2) (rest n * x.1.w / weights) else 0
      last ≤ 4 ∧ grants 0 = stageOne pool ms ∧ rest 0 = pool - (stageOne pool ms).sum ∧
      (∀ n < last, 0 < (gains n).sum ∧ (gains n).sum ≤ rest n ∧ rest (n + 1) = rest n - (gains n).sum ∧
        grants (n + 1) = List.zipWith (· + ·) (grants n) (gains n)) ∧
      (last = 4 ∨ (gains last).sum = 0) ∧ divide pool ms = grants last) ∧
  (∀ ev : Ev, ev.runSplit.s.bsc.bays.toList.map BscBay.grant =
    divide (ev.s.shu.lapp - ev.s.lkc.power) (ev.s.bsc.bays.toList.map fun x => ⟨x.demand, x.floor, x.weight⟩)) ∧
  ∀ ev : Ev,
    FiguresOk ev.compose.s ∧ ev.compose.s = { ev.s with shu :=
      { ev.s.shu with d := ev.compose.s.shu.d, f := ev.compose.s.shu.f, w := ev.compose.s.shu.w } } ∧
    (¬ FiguresOk ev.s → ev.compose.share = true ∧ ev.compose.claimTest = true)

/-- R55: the request: the charge current times the voltage, in watts rounded up, capped at 24 W; 0 in IDLE, in FAULT,
under the inhibit flag, in HOLD and at CUT; the values of Table 3-6; and a bay granted its full request draws no more
than it, and at most 50 mA less than its derated current. R46, R47, R53, R54: a bay charges by its fixed current at 5
V in BULK, or by the profile entry of its class, where that is below K, and of its percent's band; its charge current
is that current at four quarters less the derate level, rounded down to 50 mA, in RUN, below CUT, out of HOLD and
without the inhibit flag, else 0, and a charge current of 0 goes with 5 V. R56, R57: the floor is 6 W in ACTIVE and
LOCKED with a package listed, 2 W in ASLEEP and SEATED, else 0, and 0 at CUT and in FAULT; the demand is the larger of
request and floor. R63: the setpoint current in RUN is the smaller of the grant's current, rounded down to 50 mA, and
the larger of charge current and floor current; else it is 0; its power is never above the grant. -/
def Obligations.RequestRule : Prop :=
  (∀ (s : State) (b : BayId),
    let x := computedBay s b
    (x.request = min 24 ((x.chargeCurrent * (if x.chargeNine then 9000 else 5000) + 999999) / 1000000)) ∧
    (x.chargeCurrent = 0 → x.request = 0) ∧
    ((s.bscBay b).supply = .idle ∨ (s.bscBay b).supply = .fault ∨ (∃ r, (s.dlcBay b).record = some r ∧ r.inhibit = true) ∨
      x.phase = some .hold ∨ s.bsc.derate = .cut → x.request = 0) ∧
    (x.grant = x.request → (setpointOf x).power ≤ 1000 * x.request ∧
      ((s.bscBay b).supply = .run → x.chargeCurrent ≤ 2700 → x.chargeCurrent ≤ (setpointOf x).current + 50))) ∧
  (requestOf 2000 true = 18 ∧ requestOf 1850 true = 17 ∧ requestOf 1500 true = 14 ∧ requestOf 1000 true = 9 ∧
    requestOf 2700 true = 24 ∧ requestOf 2700 false = 14 ∧ requestOf 500 false = 3 ∧ requestOf 250 true = 3) ∧
  (∀ (s : State) (b : BayId) (entry : ProfileEntry),
    let y := s.bscBay b
    let d := s.dlcBay b
    let x := computedBay s b
    let size := 64 / s.settings.classes
    let part := match d.record with | some r => if r.cls < s.settings.classes then r.cls else 0 | none => 0
    let band := match d.record.bind TabletRecord.percent with
      | some p => if d.dock = .asleep then 0 else p * size / 101
      | none => 0
    let level := match s.bsc.derate with | .l0 => 0 | .l1 => 1 | .l2 => 2 | .l3 => 3 | .cut => 4
    let charging : Prop := y.supply = .run ∧ s.bsc.derate ≠ .cut ∧ entry.phase ≠ .hold ∧
      ∀ r, d.record = some r → r.inhibit = false
    ((∃ i, y.fixed = some i ∧ entry = ⟨i, false, .bulk⟩) ∨
      (y.fixed = none ∧ s.settings.profile[part * size + band]? = some entry) →
      (charging → x.chargeCurrent = entry.current * (4 - level) / 4 / 50 * 50 ∧
        (0 < x.chargeCurrent → x.chargeNine = entry.nineVolt)) ∧
      (¬ charging → x.chargeCurrent = 0) ∧ (x.chargeCurrent = 0 → x.chargeNine = false) ∧
      x.phase = if y.supply = .idle then none else some entry.phase) ∧
    (x.floor =
      if s.bsc.derate = .cut ∨ y.supply = .fault then 0
      else if (s.pksBay b).list ≠ [] ∧ d.dock = .active ∧ (s.lkcBay b).lock = some .locked then 6
      else if d.dock = .asleep ∨ d.dock = .seated then 2 else 0) ∧
    x.demand = max x.request x.floor) ∧
  ∀ x : BscBay,
    (setpointOf x).nineVolt = (x.chargeNine && decide (0 < x.chargeCurrent)) ∧
    (x.supply = .run → (setpointOf x).current =
      min (x.grant * 1000000 / (if (setpointOf x).nineVolt then 9000 else 5000) / 50 * 50)
        (max x.chargeCurrent (x.floor * 1000 / 5 / 50 * 50))) ∧
    (x.supply ≠ .run → (setpointOf x).current = 0) ∧
    (setpointOf x).power ≤ 1000 * x.grant

/-! ### The pending notice set (chapter 9) -/

/-- R174 to R176: one notice entered: none at level 0; a repeat takes the new detail and a count up to 15; a new pair
is added behind the others with the level of its kind while the set has room; on a full set it takes the place of the
oldest entry of the lowest level present, if that is below its own, else it is dropped, and either sets the overflow
indicator. R178: of the entries above the mask, the oldest of the highest level is handed over, in ACTIVE, ISOLATED
and CLASHED with fewer than two NOTICE frames and two free slots: it leaves the set, its frame carries the fields of
Table 11-2, and the overflow indicator clears; else nothing is. A frame that leaves the queue, a new mask level and an
entry made are followed by up to two handovers. Table 9-4: the notice that each event hands to the Notice Unit, with
its bay and detail, where none is handed over further at the event; TRIMMED stands in PeerRows, the notices of the
start in Handover. The model's readings: the retract time of LATCH_SLOW (log entry 28) and the form of a temperature
(log entry 12). -/
def Obligations.NoticeEntered : Prop :=
  (∀ (levels : List Nat) (now : Nat) (n : Notice) (u : Ntu),
    let v := enterNotice levels now n u
    let level := levels.getD (n.kind.code - 1) 0
    let new : Pending := ⟨n.kind, n.bay, n.detail, 1, level, now⟩
    let isPair (p : Pending) : Prop := p.kind = n.kind ∧ p.bay = n.bay
    (level = 0 → v = u) ∧
    (level ≠ 0 → (∃ p ∈ u.entries, isPair p) → v.overflow = u.overflow ∧ v.entries.length = u.entries.length ∧
      ∀ x ∈ u.entries.zip v.entries,
        (isPair x.1 → x.2 = { x.1 with detail := n.detail, count := min 15 (x.1.count + 1) }) ∧
        (¬ isPair x.1 → x.2 = x.1)) ∧
    (level ≠ 0 → (∀ p ∈ u.entries, ¬ isPair p) → u.entries.length < 16 → v = { u with entries := u.entries ++ [new] }) ∧
    (level ≠ 0 → level ≤ 7 → (∀ p ∈ u.entries, ¬ isPair p) → 16 ≤ u.entries.length →
      v.overflow = true ∧ v.mask = u.mask ∧
      ((∀ p ∈ u.entries, level ≤ p.level) → v.entries = u.entries) ∧
      ∀ l1 p l2, u.entries = l1 ++ p :: l2 → p.level < level → (∀ q ∈ u.entries, p.level ≤ q.level) →
        (∀ q ∈ l1, q.level ≠ p.level) → v.entries = l1 ++ l2 ++ [new])) ∧
  (∀ s : State,
    let n8 (n : Nat) : Byte := BitVec.ofNat 8 n
    let sends : Prop := s.cbi.station = .active ∨ s.cbi.station = .isolated ∨ s.cbi.station = .clashed
    let room : Prop := noticeFrames s < 2 ∧ 2 ≤ freeSlots s
    (¬ sends ∨ ¬ room ∨ (∀ p ∈ s.ntu.entries, p.level ≤ s.ntu.mask) → handOver s = s) ∧
    (∀ l1 p l2, sends → room → s.ntu.entries = l1 ++ p :: l2 → s.ntu.mask < p.level →
      (∀ q ∈ s.ntu.entries, q.level ≤ p.level) → (∀ q ∈ l1, q.level < p.level) →
      (∀ q ∈ l1 ++ l2, q.kind ≠ p.kind ∨ q.bay ≠ p.bay) →
      let age := min 65535 (s.now - p.first)
      handOver s = { placeFrame .notice [n8 p.kind.code, n8 p.bay, n8 p.detail, n8 (p.detail / 256), n8 p.count, n8 p.level,
          n8 age, n8 (age / 256), if s.ntu.overflow then 1 else 0] false s with
        ntu := { s.ntu with entries := l1 ++ l2, overflow := false } }) ∧
    (∀ f, s.runs = true → TxQueueOk s → f ∈ s.cbi.queue → s.cbi.contending = some f.age → f.kind ≠ .claim →
      exec .headWon s = .next (handOver (handOver { s with cbi := { s.cbi with
        queue := s.cbi.queue.filter fun g => g ≠ f, contending := none, onLine := some f } }))) ∧
    (∀ m : Byte, s.steady → s.hasRoom → m.toNat ≤ 7 → m.toNat ≠ s.ntu.mask → exec (.noticeMask [m]) s = .next
      (handOver (handOver (({ s with ntu := { s.ntu with mask := m.toNat } } : State).answered 0x15 0 .done)))) ∧
    (s.cbi.station = .clashed → s.settings.levels.getD 3 0 ≠ 0 → exec .ownIdFrame s = .next (handOver (handOver { s with
      ntu := enterNotice s.settings.levels s.now ⟨.idClash, 0, s.cbi.ownId.toNat⟩ s.ntu })))) ∧
  [NoticeKind.started, .configDefaults, .configFault, .idClash, .isolated, .rejoined, .ceilingMismatch, .countMismatch,
    .trimmed, .derate, .thermalCut, .sensorFault, .supplyFault, .seatedTablet, .wrongBay, .unseated, .released, .notOpened,
    .notTaken, .forced, .jammed, .lockFault, .latchSlow, .unsecured, .noPower, .packageDone, .deliveryFailed, .loadFault,
    .tabletModeUnset].map NoticeKind.code = (List.range 29).map (· + 1) ∧
  ∀ s : State, s.runs = true → s.masksAll →
    let raises (c : Instr) (kind : NoticeKind) (bay detail : Nat) : Prop :=
      ∃ t, exec c s = .next t ∧ HandsOver s t kind bay detail
    let own := s.cbi.ownId
    let nCfg := s.settings.nCfg
    raises .ownIdFrame .idClash 0 own.toNat ∧
    (s.cbi.listenUntil.isSome = true → s.cbi.station = .listen → raises .listenPeriodExpiry .started 0
      (match s.sul.cause with | .powerOn => 1 | .resetInput => 2 | .restart => 3)) ∧
    (s.cbi.station = .active → 2 ≤ nCfg → raises .stuckLineStart .isolated 0 2 ∧
      (s.cbi.isolationUntil.isSome = true → raises .isolationTimerExpiry .isolated 0 1)) ∧
    (∀ id, id ≠ own → s.cbi.station = .isolated → raises (.ignoredFrame id) .rejoined 0 id.toNat) ∧
    (∀ (id : StationId) (st d f w a c0 c1 n tr : Byte), id ≠ own → id ≠ 0 →
      let c := Instr.claimArrival id [st, d, f, w, a, c0, c1, n, tr]
      ((∀ p ∈ s.shu.peers, p.id = id → p.countNoted = false) → nCfg < id.toNat ∨ max 1 (min 15 n.toNat) ≠ nCfg →
        raises c .countMismatch 0 id.toNat) ∧
      ((∀ p ∈ s.shu.peers, p.id = id → p.ceilingNoted = false) →
        max 100 (min 2400 (c0.toNat + 256 * c1.toNat)) ≠ s.settings.cSel → raises c .ceilingMismatch 0 id.toNat)) ∧
    (∀ r1 r2 : Int, ∃ t, exec (.sensorSample r1 r2) s = .next t ∧
      let T := if t.bsc.sensor1.faulty then r2 else if t.bsc.sensor2.faulty then r1 else max r1 r2
      (t.bsc.derate ≠ s.bsc.derate → HandsOver s t .derate 0 t.bsc.derate.code ∧
        (t.bsc.derate = .cut → HandsOver s t .thermalCut 0 (T % 65536).toNat)) ∧
      (s.bsc.sensor1.faulty = false → t.bsc.sensor1.faulty = true → HandsOver s t .sensorFault 0 1) ∧
      (s.bsc.sensor2.faulty = false → t.bsc.sensor2.faulty = true → HandsOver s t .sensorFault 0 2)) ∧
    (∀ (id off : Byte) (bytes : List Byte) (p : Package), bytes.length = 32 → findPackage s.pks.table id.toNat = some p →
      p.state = .loading → ∃ t, exec (.packageData (id :: off :: bytes)) s = .next t ∧
        ∀ q, findPackage t.pks.table id.toNat = some q → q.state = .loadFault ∨ q.state = .checkFault →
          HandsOver s t .loadFault 0 id.toNat) ∧
    ∀ b : BayId, ReleasesOk s →
      let x := s.lkcBay b
      let d := s.dlcBay b
      (∀ k, (s.bscBay b).supply = .run → (k = .underVoltage → 0 < (s.bscBay b).applied.current) →
        raises (.supplyFault b k) .supplyFault b.num
          (match k with | .overSetpoint => 1 | .overCurrent => 2 | .underVoltage => 3)) ∧
      (d.dock ≠ .empty → x.doorOpen = false → x.lock = some .locked ∨ x.lock = some .queued →
        raises (.presenceLost b) .unseated b.num (if d.record.isSome then 1 else 0)) ∧
      (∀ (bay : Byte) (tag : Tag), bay.toNat = b.num → s.hasRoom → tagOk tag = true → (∃ r ∈ d.record, r.tag ≠ tag) →
        raises (.assign (bay :: tag)) .wrongBay b.num 2) ∧
      (∀ i item y, exchangeAt? s b .awaitingReply = some (i, item, y) →
        (∀ (tag : Tag) (cls percent : Byte) (inhibit mode : Bool), y.request = .ident → d.dock = .seated →
          tagOk tag = true → cls.toNat ≤ 7 →
          let c := Instr.identReply b (tag ++ [cls, percent, flagByte inhibit, flagByte mode])
          raises c .seatedTablet b.num cls.toNat ∧ (∀ a ∈ x.assignment, a ≠ tag → raises c .wrongBay b.num 1)) ∧
        (∀ asked, y.request = .mode asked →
          raises (.modeReply b [flagByte (!asked)]) .tabletModeUnset b.num (if asked then 2 else 1)) ∧
        (y.secondTry = true → ∀ c ∈ [Instr.replyWindowTimeout b, .badReply b],
          (item.kind = .modeCart → raises c .tabletModeUnset b.num 1) ∧
          (item.kind = .modeFree → raises c .tabletModeUnset b.num 2)) ∧
        ∀ id r p tg, y.request = .pkgEnd id → d.transfer = some r → findPackage s.pks.table r.id = some p →
          p.state = .ready → p.targets.get b = some tg →
          (1 ≤ tg.attempts → raises (.pkgEndReply b [1]) .deliveryFailed b.num r.id) ∧
          ((∀ b' : BayId, b' ≠ b → ∀ tg' ∈ p.targets.get b', tg'.outcome ≠ .pending) →
            raises (.pkgEndReply b [0]) .packageDone 0 r.id)) ∧
      (x.doorOpen = false →
        (∀ l, x.lock = some l → l = .locked ∨ l = .queued ∨ l = .prepare ∨ l = .lockFault ∨
            (l = .cooldown ∧ x.boltRetracted = false) →
          raises (.doorOpened b) .forced b.num l.code) ∧
        (∀ i e phase mark, driverAt? s b = some (i, e, phase, mark) →
          x.lock = some .hold ∨ (x.lock = some .pulse ∧ mark = false) →
          raises (.doorOpened b) .released b.num e.kind.code) ∧
        ∀ e, s.lkc.entry? b = some e → x.lock = some .unsecured ∨ (x.lock = some .cooldown ∧ x.boltRetracted = true) →
          raises (.doorOpened b) .released b.num e.kind.code) ∧
      (x.doorOpen = true → x.lock = some .opened → x.release = some ⟨.checkout, .opened⟩ →
        raises (.doorClosed b) .notTaken b.num 0) ∧
      (x.boltRetracted = false → x.doorOpen = false → x.extendUntil = none → x.lock = some .locked ∨ x.lock = some .queued →
        raises (.boltRetracted b) .unsecured b.num 1) ∧
      (x.extendUntil.isSome = true → x.boltRetracted = true → x.doorOpen = false →
        x.lock = some .locked ∨ x.lock = some .queued ∨ x.lock = some .opened →
        raises (.extendWaitExpiry b) .unsecured b.num 2) ∧
      (∀ i e from_ until_ mark, driverAt? s b = some (i, e, .pulse from_ until_ false, mark) →
        (x.boltRetracted = false → e.pulse * 70 < (s.now - 2 - from_) * 100 →
          raises (.boltRetracted b) .latchSlow b.num (s.now - 2 - from_)) ∧
        (x.doorOpen = false → raises (.pulseEnd b) .jammed b.num (min 2 (x.jams + 1)) ∧
          (0 < x.jams → raises (.pulseEnd b) .lockFault b.num 0))) ∧
      (∀ i e until_, driverAt? s b = some (i, e, .hold until_, false) →
        raises (.holdWindowExpiry b) .notOpened b.num e.kind.code) ∧
      ∀ e, s.lkc.queue = [e] → e.bay = b → e.limitFallen = false → e.modeWait = false → d.transfer = none →
        s.shu.lapp < s.lkc.power + 10 → x.lock ≠ some .cooldown →
        raises (.waitLimit b) .noPower b.num s.shu.lapp
end

