-- ==== Sys2Proof/Laws/State.lean ====
section
/-! SUPPORT. What each named update of the state leaves and changes, field by field, so that no later proof unfolds an
update. -/

namespace Sys2Proof

/-! ### A value per bay -/

@[simp] theorem PerBay.get_set {α : Type} (p : PerBay α) (b c : BayId) (x : α) :
    (p.set b x).get c = if c = b then x else p.get c := by
  cases b <;> cases c <;> rfl

@[simp] theorem PerBay.get_ofFn {α : Type} (f : BayId → α) (b : BayId) : (PerBay.ofFn f).get b = f b := by
  cases b <;> rfl

@[simp] theorem PerBay.get_const {α : Type} (x : α) (b : BayId) : (PerBay.const x).get b = x := by
  cases b <;> rfl

theorem PerBay.ext_get {α : Type} {p q : PerBay α} (h : ∀ b, p.get b = q.get b) : p = q := by
  cases p; cases q
  simp only [PerBay.mk.injEq]
  exact ⟨h .b1, h .b2, h .b3, h .b4, h .b5, h .b6, h .b7, h .b8⟩

@[simp] theorem PerBay.set_get {α : Type} (p : PerBay α) (b : BayId) : p.set b (p.get b) = p := by
  cases b <;> rfl

@[simp] theorem BayId.mem_all (b : BayId) : b ∈ BayId.all := by
  cases b <;> decide

theorem BayId.ofNum_num (b : BayId) : BayId.ofNum? b.num = some b := by
  cases b <;> rfl

theorem BayId.num_inj {b c : BayId} (h : b.num = c.num) : b = c := by
  have h' := congrArg BayId.ofNum? h
  simpa [BayId.ofNum_num] using h'

theorem BayId.ofNum_eq_some {n : Nat} {b : BayId} (h : BayId.ofNum? n = some b) : n = b.num := by
  unfold BayId.ofNum? at h
  split at h <;> cases h <;> rfl

/-- A bay byte names a bay exactly when it is the bay's number. -/
theorem Machine.bayOf_eq_some_iff (x : Byte) (b : BayId) : Machine.bayOf x = some b ↔ x.toNat = b.num :=
  ⟨BayId.ofNum_eq_some, fun h => by simp [Machine.bayOf, h, BayId.ofNum_num]⟩

end Sys2Proof

namespace Sys2Proof.Machine

/-! ### One bay of the bsc replaced -/

section
variable (s : State) (b c : BayId) (x : BscBay)

@[simp] theorem State.setBscBay_pending : (s.setBscBay b x).pending = s.pending := rfl
@[simp] theorem State.setBscBay_now : (s.setBscBay b x).now = s.now := rfl
@[simp] theorem State.setBscBay_free : (s.setBscBay b x).free = s.free := rfl
@[simp] theorem State.setBscBay_settings : (s.setBscBay b x).settings = s.settings := rfl
@[simp] theorem State.setBscBay_cbi : (s.setBscBay b x).cbi = s.cbi := rfl
@[simp] theorem State.setBscBay_shu : (s.setBscBay b x).shu = s.shu := rfl
@[simp] theorem State.setBscBay_dlc : (s.setBscBay b x).dlc = s.dlc := rfl
@[simp] theorem State.setBscBay_pks : (s.setBscBay b x).pks = s.pks := rfl
@[simp] theorem State.setBscBay_lkc : (s.setBscBay b x).lkc = s.lkc := rfl
@[simp] theorem State.setBscBay_ntu : (s.setBscBay b x).ntu = s.ntu := rfl
@[simp] theorem State.setBscBay_sul : (s.setBscBay b x).sul = s.sul := rfl
@[simp] theorem State.setBscBay_bsc_derate : (s.setBscBay b x).bsc.derate = s.bsc.derate := rfl
@[simp] theorem State.setBscBay_bsc_hot : (s.setBscBay b x).bsc.hot = s.bsc.hot := rfl
@[simp] theorem State.setBscBay_bsc_cool : (s.setBscBay b x).bsc.cool = s.bsc.cool := rfl
@[simp] theorem State.setBscBay_bsc_sensor1 : (s.setBscBay b x).bsc.sensor1 = s.bsc.sensor1 := rfl
@[simp] theorem State.setBscBay_bsc_sensor2 : (s.setBscBay b x).bsc.sensor2 = s.bsc.sensor2 := rfl
@[simp] theorem State.setBscBay_bscBay : (s.setBscBay b x).bscBay c = if c = b then x else s.bscBay c :=
  PerBay.get_set _ _ _ _
@[simp] theorem State.setBscBay_dlcBay : (s.setBscBay b x).dlcBay c = s.dlcBay c := rfl
@[simp] theorem State.setBscBay_pksBay : (s.setBscBay b x).pksBay c = s.pksBay c := rfl
@[simp] theorem State.setBscBay_lkcBay : (s.setBscBay b x).lkcBay c = s.lkcBay c := rfl
@[simp] theorem State.setBscBay_runs : (s.setBscBay b x).runs = s.runs := rfl
@[simp] theorem State.setBscBay_same : s.setBscBay b (s.bscBay b) = s := by
  simp [State.setBscBay, State.bscBay]

end

/-! ### One bay of the dlc replaced -/

section
variable (s : State) (b c : BayId) (x : DlcBay)

@[simp] theorem State.setDlcBay_pending : (s.setDlcBay b x).pending = s.pending := rfl
@[simp] theorem State.setDlcBay_now : (s.setDlcBay b x).now = s.now := rfl
@[simp] theorem State.setDlcBay_free : (s.setDlcBay b x).free = s.free := rfl
@[simp] theorem State.setDlcBay_settings : (s.setDlcBay b x).settings = s.settings := rfl
@[simp] theorem State.setDlcBay_cbi : (s.setDlcBay b x).cbi = s.cbi := rfl
@[simp] theorem State.setDlcBay_shu : (s.setDlcBay b x).shu = s.shu := rfl
@[simp] theorem State.setDlcBay_bsc : (s.setDlcBay b x).bsc = s.bsc := rfl
@[simp] theorem State.setDlcBay_pks : (s.setDlcBay b x).pks = s.pks := rfl
@[simp] theorem State.setDlcBay_lkc : (s.setDlcBay b x).lkc = s.lkc := rfl
@[simp] theorem State.setDlcBay_ntu : (s.setDlcBay b x).ntu = s.ntu := rfl
@[simp] theorem State.setDlcBay_sul : (s.setDlcBay b x).sul = s.sul := rfl
@[simp] theorem State.setDlcBay_dlc_queue : (s.setDlcBay b x).dlc.queue = s.dlc.queue := rfl
@[simp] theorem State.setDlcBay_dlc_deferred : (s.setDlcBay b x).dlc.deferred = s.dlc.deferred := rfl
@[simp] theorem State.setDlcBay_dlc_engine1 : (s.setDlcBay b x).dlc.engine1 = s.dlc.engine1 := rfl
@[simp] theorem State.setDlcBay_dlc_engine2 : (s.setDlcBay b x).dlc.engine2 = s.dlc.engine2 := rfl
@[simp] theorem State.setDlcBay_bscBay : (s.setDlcBay b x).bscBay c = s.bscBay c := rfl
@[simp] theorem State.setDlcBay_dlcBay : (s.setDlcBay b x).dlcBay c = if c = b then x else s.dlcBay c :=
  PerBay.get_set _ _ _ _
@[simp] theorem State.setDlcBay_pksBay : (s.setDlcBay b x).pksBay c = s.pksBay c := rfl
@[simp] theorem State.setDlcBay_lkcBay : (s.setDlcBay b x).lkcBay c = s.lkcBay c := rfl
@[simp] theorem State.setDlcBay_runs : (s.setDlcBay b x).runs = s.runs := rfl
@[simp] theorem State.setDlcBay_same : s.setDlcBay b (s.dlcBay b) = s := by
  simp [State.setDlcBay, State.dlcBay]

end

/-! ### One bay of the pks replaced -/

section
variable (s : State) (b c : BayId) (x : PksBay)

@[simp] theorem State.setPksBay_pending : (s.setPksBay b x).pending = s.pending := rfl
@[simp] theorem State.setPksBay_now : (s.setPksBay b x).now = s.now := rfl
@[simp] theorem State.setPksBay_free : (s.setPksBay b x).free = s.free := rfl
@[simp] theorem State.setPksBay_settings : (s.setPksBay b x).settings = s.settings := rfl
@[simp] theorem State.setPksBay_cbi : (s.setPksBay b x).cbi = s.cbi := rfl
@[simp] theorem State.setPksBay_shu : (s.setPksBay b x).shu = s.shu := rfl
@[simp] theorem State.setPksBay_bsc : (s.setPksBay b x).bsc = s.bsc := rfl
@[simp] theorem State.setPksBay_dlc : (s.setPksBay b x).dlc = s.dlc := rfl
@[simp] theorem State.setPksBay_lkc : (s.setPksBay b x).lkc = s.lkc := rfl
@[simp] theorem State.setPksBay_ntu : (s.setPksBay b x).ntu = s.ntu := rfl
@[simp] theorem State.setPksBay_sul : (s.setPksBay b x).sul = s.sul := rfl
@[simp] theorem State.setPksBay_pks_store : (s.setPksBay b x).pks.store = s.pks.store := rfl
@[simp] theorem State.setPksBay_pks_table : (s.setPksBay b x).pks.table = s.pks.table := rfl
@[simp] theorem State.setPksBay_pks_nextSettle : (s.setPksBay b x).pks.nextSettle = s.pks.nextSettle := rfl
@[simp] theorem State.setPksBay_bscBay : (s.setPksBay b x).bscBay c = s.bscBay c := rfl
@[simp] theorem State.setPksBay_dlcBay : (s.setPksBay b x).dlcBay c = s.dlcBay c := rfl
@[simp] theorem State.setPksBay_pksBay : (s.setPksBay b x).pksBay c = if c = b then x else s.pksBay c :=
  PerBay.get_set _ _ _ _
@[simp] theorem State.setPksBay_lkcBay : (s.setPksBay b x).lkcBay c = s.lkcBay c := rfl
@[simp] theorem State.setPksBay_runs : (s.setPksBay b x).runs = s.runs := rfl
@[simp] theorem State.setPksBay_same : s.setPksBay b (s.pksBay b) = s := by
  simp [State.setPksBay, State.pksBay]

end

/-! ### One bay of the lkc replaced -/

section
variable (s : State) (b c : BayId) (x : LkcBay)

@[simp] theorem State.setLkcBay_pending : (s.setLkcBay b x).pending = s.pending := rfl
@[simp] theorem State.setLkcBay_now : (s.setLkcBay b x).now = s.now := rfl
@[simp] theorem State.setLkcBay_free : (s.setLkcBay b x).free = s.free := rfl
@[simp] theorem State.setLkcBay_settings : (s.setLkcBay b x).settings = s.settings := rfl
@[simp] theorem State.setLkcBay_cbi : (s.setLkcBay b x).cbi = s.cbi := rfl
@[simp] theorem State.setLkcBay_shu : (s.setLkcBay b x).shu = s.shu := rfl
@[simp] theorem State.setLkcBay_bsc : (s.setLkcBay b x).bsc = s.bsc := rfl
@[simp] theorem State.setLkcBay_dlc : (s.setLkcBay b x).dlc = s.dlc := rfl
@[simp] theorem State.setLkcBay_pks : (s.setLkcBay b x).pks = s.pks := rfl
@[simp] theorem State.setLkcBay_ntu : (s.setLkcBay b x).ntu = s.ntu := rfl
@[simp] theorem State.setLkcBay_sul : (s.setLkcBay b x).sul = s.sul := rfl
@[simp] theorem State.setLkcBay_lkc_queue : (s.setLkcBay b x).lkc.queue = s.lkc.queue := rfl
@[simp] theorem State.setLkcBay_lkc_driver1 : (s.setLkcBay b x).lkc.driver1 = s.lkc.driver1 := rfl
@[simp] theorem State.setLkcBay_lkc_driver2 : (s.setLkcBay b x).lkc.driver2 = s.lkc.driver2 := rfl
@[simp] theorem State.setLkcBay_bscBay : (s.setLkcBay b x).bscBay c = s.bscBay c := rfl
@[simp] theorem State.setLkcBay_dlcBay : (s.setLkcBay b x).dlcBay c = s.dlcBay c := rfl
@[simp] theorem State.setLkcBay_pksBay : (s.setLkcBay b x).pksBay c = s.pksBay c := rfl
@[simp] theorem State.setLkcBay_lkcBay : (s.setLkcBay b x).lkcBay c = if c = b then x else s.lkcBay c :=
  PerBay.get_set _ _ _ _
@[simp] theorem State.setLkcBay_runs : (s.setLkcBay b x).runs = s.runs := rfl
@[simp] theorem State.setLkcBay_same : s.setLkcBay b (s.lkcBay b) = s := by
  simp [State.setLkcBay, State.lkcBay]

end

/-! ### The clock moved on -/

section
variable (s : State) (t : Nat) (b : BayId)

@[simp] theorem State.upTo_now : (s.upTo t).now = max s.now t := rfl
@[simp] theorem State.upTo_pending : (s.upTo t).pending = s.pending := rfl
@[simp] theorem State.upTo_free : (s.upTo t).free = s.free := rfl
@[simp] theorem State.upTo_settings : (s.upTo t).settings = s.settings := rfl
@[simp] theorem State.upTo_cbi : (s.upTo t).cbi = s.cbi := rfl
@[simp] theorem State.upTo_shu : (s.upTo t).shu = s.shu := rfl
@[simp] theorem State.upTo_bsc : (s.upTo t).bsc = s.bsc := rfl
@[simp] theorem State.upTo_dlc : (s.upTo t).dlc = s.dlc := rfl
@[simp] theorem State.upTo_pks : (s.upTo t).pks = s.pks := rfl
@[simp] theorem State.upTo_lkc : (s.upTo t).lkc = s.lkc := rfl
@[simp] theorem State.upTo_ntu : (s.upTo t).ntu = s.ntu := rfl
@[simp] theorem State.upTo_sul : (s.upTo t).sul = s.sul := rfl
@[simp] theorem State.upTo_bscBay : (s.upTo t).bscBay b = s.bscBay b := rfl
@[simp] theorem State.upTo_dlcBay : (s.upTo t).dlcBay b = s.dlcBay b := rfl
@[simp] theorem State.upTo_pksBay : (s.upTo t).pksBay b = s.pksBay b := rfl
@[simp] theorem State.upTo_lkcBay : (s.upTo t).lkcBay b = s.lkcBay b := rfl
@[simp] theorem State.upTo_runs : (s.upTo t).runs = s.runs := rfl

end

/-! ### A frame placed -/

section
variable (k : TxKind) (p : List Byte) (m : Bool) (s : State) (b : BayId)

@[simp] theorem placeFrame_queue : (placeFrame k p m s).cbi.queue =
    insertFrame { kind := k, payload := p, marked := m, age := s.cbi.nextAge } s.cbi.queue := rfl
@[simp] theorem placeFrame_nextAge : (placeFrame k p m s).cbi.nextAge = s.cbi.nextAge + 1 := rfl
@[simp] theorem placeFrame_station : (placeFrame k p m s).cbi.station = s.cbi.station := rfl
@[simp] theorem placeFrame_ownId : (placeFrame k p m s).cbi.ownId = s.cbi.ownId := rfl
@[simp] theorem placeFrame_contending : (placeFrame k p m s).cbi.contending = s.cbi.contending := rfl
@[simp] theorem placeFrame_onLine : (placeFrame k p m s).cbi.onLine = s.cbi.onLine := rfl
@[simp] theorem placeFrame_mismatch : (placeFrame k p m s).cbi.mismatch = s.cbi.mismatch := rfl
@[simp] theorem placeFrame_stuck : (placeFrame k p m s).cbi.stuck = s.cbi.stuck := rfl
@[simp] theorem placeFrame_rxErrors : (placeFrame k p m s).cbi.rxErrors = s.cbi.rxErrors := rfl
@[simp] theorem placeFrame_listenUntil : (placeFrame k p m s).cbi.listenUntil = s.cbi.listenUntil := rfl
@[simp] theorem placeFrame_isolationUntil : (placeFrame k p m s).cbi.isolationUntil = s.cbi.isolationUntil := rfl
@[simp] theorem placeFrame_pending : (placeFrame k p m s).pending = s.pending := rfl
@[simp] theorem placeFrame_now : (placeFrame k p m s).now = s.now := rfl
@[simp] theorem placeFrame_free : (placeFrame k p m s).free = s.free := rfl
@[simp] theorem placeFrame_settings : (placeFrame k p m s).settings = s.settings := rfl
@[simp] theorem placeFrame_shu : (placeFrame k p m s).shu = s.shu := rfl
@[simp] theorem placeFrame_bsc : (placeFrame k p m s).bsc = s.bsc := rfl
@[simp] theorem placeFrame_dlc : (placeFrame k p m s).dlc = s.dlc := rfl
@[simp] theorem placeFrame_pks : (placeFrame k p m s).pks = s.pks := rfl
@[simp] theorem placeFrame_lkc : (placeFrame k p m s).lkc = s.lkc := rfl
@[simp] theorem placeFrame_ntu : (placeFrame k p m s).ntu = s.ntu := rfl
@[simp] theorem placeFrame_sul : (placeFrame k p m s).sul = s.sul := rfl
@[simp] theorem placeFrame_bscBay : (placeFrame k p m s).bscBay b = s.bscBay b := rfl
@[simp] theorem placeFrame_dlcBay : (placeFrame k p m s).dlcBay b = s.dlcBay b := rfl
@[simp] theorem placeFrame_pksBay : (placeFrame k p m s).pksBay b = s.pksBay b := rfl
@[simp] theorem placeFrame_lkcBay : (placeFrame k p m s).lkcBay b = s.lkcBay b := rfl
@[simp] theorem placeFrame_runs : (placeFrame k p m s).runs = s.runs := rfl

end

theorem mem_insertFrame {f g : TxFrame} : ∀ {l : List TxFrame}, g ∈ insertFrame f l ↔ g = f ∨ g ∈ l
  | [] => by simp [insertFrame]
  | x :: rest => by
    unfold insertFrame
    split
    · simp
    · simp only [List.mem_cons, mem_insertFrame]
      tauto

@[simp] theorem length_insertFrame (f : TxFrame) : ∀ l : List TxFrame, (insertFrame f l).length = l.length + 1
  | [] => rfl
  | x :: rest => by
    unfold insertFrame
    split
    · rfl
    · simp [length_insertFrame f rest]

/-- R9: a frame placed waits behind every older frame of its priority, so that the order of priority and age stands. -/
theorem insertFrame_sorted {f : TxFrame} : ∀ {l : List TxFrame}, (∀ g ∈ l, g.age < f.age) →
    l.Pairwise (fun g h => g.kind.priority < h.kind.priority ∨ (g.kind.priority = h.kind.priority ∧ g.age < h.age)) →
    (insertFrame f l).Pairwise
      (fun g h => g.kind.priority < h.kind.priority ∨ (g.kind.priority = h.kind.priority ∧ g.age < h.age))
  | [], _, _ => by simp [insertFrame]
  | x :: rest, ha, hp => by
    have hx := List.pairwise_cons.mp hp
    unfold insertFrame
    split
    · rename_i hlt
      refine List.pairwise_cons.mpr ⟨fun g hg => ?_, hp⟩
      rcases List.mem_cons.mp hg with rfl | hg
      · exact .inl hlt
      · rcases hx.1 g hg with h | h
        · exact .inl (by omega)
        · exact .inl (by omega)
    · rename_i hge
      refine List.pairwise_cons.mpr ⟨fun g hg => ?_, insertFrame_sorted (fun g hg => ha g (by simp [hg])) hx.2⟩
      rcases mem_insertFrame.mp hg with rfl | hg
      · have := ha x (by simp)
        omega
      · exact hx.1 g hg

/-! ### One event in progress -/

section
variable (k : NoticeKind) (n d : Nat) (ev : Ev)

@[simp] theorem Ev.raiseNotice_s : (ev.raiseNotice k n d).s = ev.s := rfl
@[simp] theorem Ev.raiseNotice_raised : (ev.raiseNotice k n d).raised = ev.raised ++ [⟨k, n, d⟩] := rfl
@[simp] theorem Ev.raiseNotice_figures : (ev.raiseNotice k n d).figures = ev.figures := rfl
@[simp] theorem Ev.raiseNotice_setpoints : (ev.raiseNotice k n d).setpoints = ev.setpoints := rfl
@[simp] theorem Ev.raiseNotice_evals : (ev.raiseNotice k n d).evals = ev.evals := rfl
@[simp] theorem Ev.raiseNotice_placed : (ev.raiseNotice k n d).placed = ev.placed := rfl
@[simp] theorem Ev.raiseNotice_report : (ev.raiseNotice k n d).report = ev.report := rfl
@[simp] theorem Ev.raiseNotice_share : (ev.raiseNotice k n d).share = ev.share := rfl
@[simp] theorem Ev.raiseNotice_overdraw : (ev.raiseNotice k n d).overdraw = ev.overdraw := rfl
@[simp] theorem Ev.raiseNotice_split : (ev.raiseNotice k n d).split = ev.split := rfl
@[simp] theorem Ev.raiseNotice_rework : (ev.raiseNotice k n d).rework = ev.rework := rfl
@[simp] theorem Ev.raiseNotice_engines : (ev.raiseNotice k n d).engines = ev.engines := rfl
@[simp] theorem Ev.raiseNotice_claim : (ev.raiseNotice k n d).claim = ev.claim := rfl
@[simp] theorem Ev.raiseNotice_claimTest : (ev.raiseNotice k n d).claimTest = ev.claimTest := rfl
@[simp] theorem Ev.raiseNotice_freshRaise : (ev.raiseNotice k n d).freshRaise = ev.freshRaise := rfl
@[simp] theorem Ev.raiseNotice_handover : (ev.raiseNotice k n d).handover = ev.handover := rfl

end

section
variable (b : BayId) (ev : Ev)

@[simp] theorem Ev.needFigures_s : (ev.needFigures b).s = ev.s := rfl
@[simp] theorem Ev.needFigures_raised : (ev.needFigures b).raised = ev.raised := rfl
@[simp] theorem Ev.needFigures_figures : (ev.needFigures b).figures = ev.figures ++ [b] := rfl
@[simp] theorem Ev.needFigures_setpoints : (ev.needFigures b).setpoints = ev.setpoints := rfl
@[simp] theorem Ev.needFigures_evals : (ev.needFigures b).evals = ev.evals := rfl
@[simp] theorem Ev.needFigures_placed : (ev.needFigures b).placed = ev.placed := rfl
@[simp] theorem Ev.needFigures_report : (ev.needFigures b).report = ev.report := rfl
@[simp] theorem Ev.needFigures_share : (ev.needFigures b).share = ev.share := rfl
@[simp] theorem Ev.needFigures_overdraw : (ev.needFigures b).overdraw = ev.overdraw := rfl
@[simp] theorem Ev.needFigures_split : (ev.needFigures b).split = ev.split := rfl
@[simp] theorem Ev.needFigures_rework : (ev.needFigures b).rework = ev.rework := rfl
@[simp] theorem Ev.needFigures_engines : (ev.needFigures b).engines = ev.engines := rfl
@[simp] theorem Ev.needFigures_claim : (ev.needFigures b).claim = ev.claim := rfl
@[simp] theorem Ev.needFigures_claimTest : (ev.needFigures b).claimTest = ev.claimTest := rfl
@[simp] theorem Ev.needFigures_freshRaise : (ev.needFigures b).freshRaise = ev.freshRaise := rfl
@[simp] theorem Ev.needFigures_handover : (ev.needFigures b).handover = ev.handover := rfl

end

section
variable (b : BayId) (ev : Ev)

@[simp] theorem Ev.needEval_s : (ev.needEval b).s = ev.s := rfl
@[simp] theorem Ev.needEval_raised : (ev.needEval b).raised = ev.raised := rfl
@[simp] theorem Ev.needEval_figures : (ev.needEval b).figures = ev.figures := rfl
@[simp] theorem Ev.needEval_setpoints : (ev.needEval b).setpoints = ev.setpoints := rfl
@[simp] theorem Ev.needEval_evals : (ev.needEval b).evals = ev.evals ++ [b] := rfl
@[simp] theorem Ev.needEval_placed : (ev.needEval b).placed = ev.placed := rfl
@[simp] theorem Ev.needEval_report : (ev.needEval b).report = ev.report := rfl
@[simp] theorem Ev.needEval_share : (ev.needEval b).share = ev.share := rfl
@[simp] theorem Ev.needEval_overdraw : (ev.needEval b).overdraw = ev.overdraw := rfl
@[simp] theorem Ev.needEval_split : (ev.needEval b).split = ev.split := rfl
@[simp] theorem Ev.needEval_rework : (ev.needEval b).rework = ev.rework := rfl
@[simp] theorem Ev.needEval_engines : (ev.needEval b).engines = ev.engines := rfl
@[simp] theorem Ev.needEval_claim : (ev.needEval b).claim = ev.claim := rfl
@[simp] theorem Ev.needEval_claimTest : (ev.needEval b).claimTest = ev.claimTest := rfl
@[simp] theorem Ev.needEval_freshRaise : (ev.needEval b).freshRaise = ev.freshRaise := rfl
@[simp] theorem Ev.needEval_handover : (ev.needEval b).handover = ev.handover := rfl

end

section
variable (b : BayId) (f : BscBay → BscBay) (ev : Ev)

@[simp] theorem Ev.updBsc_s : (ev.updBsc b f).s = ev.s.setBscBay b (f (ev.s.bscBay b)) := rfl
@[simp] theorem Ev.updBsc_raised : (ev.updBsc b f).raised = ev.raised := rfl
@[simp] theorem Ev.updBsc_figures : (ev.updBsc b f).figures = ev.figures := rfl
@[simp] theorem Ev.updBsc_setpoints : (ev.updBsc b f).setpoints = ev.setpoints := rfl
@[simp] theorem Ev.updBsc_evals : (ev.updBsc b f).evals = ev.evals := rfl
@[simp] theorem Ev.updBsc_placed : (ev.updBsc b f).placed = ev.placed := rfl
@[simp] theorem Ev.updBsc_report : (ev.updBsc b f).report = ev.report := rfl
@[simp] theorem Ev.updBsc_share : (ev.updBsc b f).share = ev.share := rfl
@[simp] theorem Ev.updBsc_overdraw : (ev.updBsc b f).overdraw = ev.overdraw := rfl
@[simp] theorem Ev.updBsc_split : (ev.updBsc b f).split = ev.split := rfl
@[simp] theorem Ev.updBsc_rework : (ev.updBsc b f).rework = ev.rework := rfl
@[simp] theorem Ev.updBsc_engines : (ev.updBsc b f).engines = ev.engines := rfl
@[simp] theorem Ev.updBsc_claim : (ev.updBsc b f).claim = ev.claim := rfl
@[simp] theorem Ev.updBsc_claimTest : (ev.updBsc b f).claimTest = ev.claimTest := rfl
@[simp] theorem Ev.updBsc_freshRaise : (ev.updBsc b f).freshRaise = ev.freshRaise := rfl
@[simp] theorem Ev.updBsc_handover : (ev.updBsc b f).handover = ev.handover := rfl

end

section
variable (b : BayId) (f : DlcBay → DlcBay) (ev : Ev)

@[simp] theorem Ev.updDlc_s : (ev.updDlc b f).s = ev.s.setDlcBay b (f (ev.s.dlcBay b)) := rfl
@[simp] theorem Ev.updDlc_raised : (ev.updDlc b f).raised = ev.raised := rfl
@[simp] theorem Ev.updDlc_figures : (ev.updDlc b f).figures = ev.figures := rfl
@[simp] theorem Ev.updDlc_setpoints : (ev.updDlc b f).setpoints = ev.setpoints := rfl
@[simp] theorem Ev.updDlc_evals : (ev.updDlc b f).evals = ev.evals := rfl
@[simp] theorem Ev.updDlc_placed : (ev.updDlc b f).placed = ev.placed := rfl
@[simp] theorem Ev.updDlc_report : (ev.updDlc b f).report = ev.report := rfl
@[simp] theorem Ev.updDlc_share : (ev.updDlc b f).share = ev.share := rfl
@[simp] theorem Ev.updDlc_overdraw : (ev.updDlc b f).overdraw = ev.overdraw := rfl
@[simp] theorem Ev.updDlc_split : (ev.updDlc b f).split = ev.split := rfl
@[simp] theorem Ev.updDlc_rework : (ev.updDlc b f).rework = ev.rework := rfl
@[simp] theorem Ev.updDlc_engines : (ev.updDlc b f).engines = ev.engines := rfl
@[simp] theorem Ev.updDlc_claim : (ev.updDlc b f).claim = ev.claim := rfl
@[simp] theorem Ev.updDlc_claimTest : (ev.updDlc b f).claimTest = ev.claimTest := rfl
@[simp] theorem Ev.updDlc_freshRaise : (ev.updDlc b f).freshRaise = ev.freshRaise := rfl
@[simp] theorem Ev.updDlc_handover : (ev.updDlc b f).handover = ev.handover := rfl

end

section
variable (b : BayId) (f : PksBay → PksBay) (ev : Ev)

@[simp] theorem Ev.updPks_s : (ev.updPks b f).s = ev.s.setPksBay b (f (ev.s.pksBay b)) := rfl
@[simp] theorem Ev.updPks_raised : (ev.updPks b f).raised = ev.raised := rfl
@[simp] theorem Ev.updPks_figures : (ev.updPks b f).figures = ev.figures := rfl
@[simp] theorem Ev.updPks_setpoints : (ev.updPks b f).setpoints = ev.setpoints := rfl
@[simp] theorem Ev.updPks_evals : (ev.updPks b f).evals = ev.evals := rfl
@[simp] theorem Ev.updPks_placed : (ev.updPks b f).placed = ev.placed := rfl
@[simp] theorem Ev.updPks_report : (ev.updPks b f).report = ev.report := rfl
@[simp] theorem Ev.updPks_share : (ev.updPks b f).share = ev.share := rfl
@[simp] theorem Ev.updPks_overdraw : (ev.updPks b f).overdraw = ev.overdraw := rfl
@[simp] theorem Ev.updPks_split : (ev.updPks b f).split = ev.split := rfl
@[simp] theorem Ev.updPks_rework : (ev.updPks b f).rework = ev.rework := rfl
@[simp] theorem Ev.updPks_engines : (ev.updPks b f).engines = ev.engines := rfl
@[simp] theorem Ev.updPks_claim : (ev.updPks b f).claim = ev.claim := rfl
@[simp] theorem Ev.updPks_claimTest : (ev.updPks b f).claimTest = ev.claimTest := rfl
@[simp] theorem Ev.updPks_freshRaise : (ev.updPks b f).freshRaise = ev.freshRaise := rfl
@[simp] theorem Ev.updPks_handover : (ev.updPks b f).handover = ev.handover := rfl

end

section
variable (b : BayId) (f : LkcBay → LkcBay) (ev : Ev)

@[simp] theorem Ev.updLkc_s : (ev.updLkc b f).s = ev.s.setLkcBay b (f (ev.s.lkcBay b)) := rfl
@[simp] theorem Ev.updLkc_raised : (ev.updLkc b f).raised = ev.raised := rfl
@[simp] theorem Ev.updLkc_figures : (ev.updLkc b f).figures = ev.figures := rfl
@[simp] theorem Ev.updLkc_setpoints : (ev.updLkc b f).setpoints = ev.setpoints := rfl
@[simp] theorem Ev.updLkc_evals : (ev.updLkc b f).evals = ev.evals := rfl
@[simp] theorem Ev.updLkc_placed : (ev.updLkc b f).placed = ev.placed := rfl
@[simp] theorem Ev.updLkc_report : (ev.updLkc b f).report = ev.report := rfl
@[simp] theorem Ev.updLkc_share : (ev.updLkc b f).share = ev.share := rfl
@[simp] theorem Ev.updLkc_overdraw : (ev.updLkc b f).overdraw = ev.overdraw := rfl
@[simp] theorem Ev.updLkc_split : (ev.updLkc b f).split = ev.split := rfl
@[simp] theorem Ev.updLkc_rework : (ev.updLkc b f).rework = ev.rework := rfl
@[simp] theorem Ev.updLkc_engines : (ev.updLkc b f).engines = ev.engines := rfl
@[simp] theorem Ev.updLkc_claim : (ev.updLkc b f).claim = ev.claim := rfl
@[simp] theorem Ev.updLkc_claimTest : (ev.updLkc b f).claimTest = ev.claimTest := rfl
@[simp] theorem Ev.updLkc_freshRaise : (ev.updLkc b f).freshRaise = ev.freshRaise := rfl
@[simp] theorem Ev.updLkc_handover : (ev.updLkc b f).handover = ev.handover := rfl

end

section
variable (u : Shu) (ev : Ev)

@[simp] theorem Ev.setShu_s : (ev.setShu u).s = { ev.s with shu := u } := rfl
@[simp] theorem Ev.setShu_raised : (ev.setShu u).raised = ev.raised := rfl
@[simp] theorem Ev.setShu_figures : (ev.setShu u).figures = ev.figures := rfl
@[simp] theorem Ev.setShu_setpoints : (ev.setShu u).setpoints = ev.setpoints := rfl
@[simp] theorem Ev.setShu_evals : (ev.setShu u).evals = ev.evals := rfl
@[simp] theorem Ev.setShu_placed : (ev.setShu u).placed = ev.placed := rfl
@[simp] theorem Ev.setShu_report : (ev.setShu u).report = ev.report := rfl
@[simp] theorem Ev.setShu_share : (ev.setShu u).share = ev.share := rfl
@[simp] theorem Ev.setShu_overdraw : (ev.setShu u).overdraw = ev.overdraw := rfl
@[simp] theorem Ev.setShu_split : (ev.setShu u).split = ev.split := rfl
@[simp] theorem Ev.setShu_rework : (ev.setShu u).rework = ev.rework := rfl
@[simp] theorem Ev.setShu_engines : (ev.setShu u).engines = ev.engines := rfl
@[simp] theorem Ev.setShu_claim : (ev.setShu u).claim = ev.claim := rfl
@[simp] theorem Ev.setShu_claimTest : (ev.setShu u).claimTest = ev.claimTest := rfl
@[simp] theorem Ev.setShu_freshRaise : (ev.setShu u).freshRaise = ev.freshRaise := rfl
@[simp] theorem Ev.setShu_handover : (ev.setShu u).handover = ev.handover := rfl

end

section
variable (c : Cbi) (ev : Ev)

@[simp] theorem Ev.setCbi_s : (ev.setCbi c).s = { ev.s with cbi := c } := rfl
@[simp] theorem Ev.setCbi_raised : (ev.setCbi c).raised = ev.raised := rfl
@[simp] theorem Ev.setCbi_figures : (ev.setCbi c).figures = ev.figures := rfl
@[simp] theorem Ev.setCbi_setpoints : (ev.setCbi c).setpoints = ev.setpoints := rfl
@[simp] theorem Ev.setCbi_evals : (ev.setCbi c).evals = ev.evals := rfl
@[simp] theorem Ev.setCbi_placed : (ev.setCbi c).placed = ev.placed := rfl
@[simp] theorem Ev.setCbi_report : (ev.setCbi c).report = ev.report := rfl
@[simp] theorem Ev.setCbi_share : (ev.setCbi c).share = ev.share := rfl
@[simp] theorem Ev.setCbi_overdraw : (ev.setCbi c).overdraw = ev.overdraw := rfl
@[simp] theorem Ev.setCbi_split : (ev.setCbi c).split = ev.split := rfl
@[simp] theorem Ev.setCbi_rework : (ev.setCbi c).rework = ev.rework := rfl
@[simp] theorem Ev.setCbi_engines : (ev.setCbi c).engines = ev.engines := rfl
@[simp] theorem Ev.setCbi_claim : (ev.setCbi c).claim = ev.claim := rfl
@[simp] theorem Ev.setCbi_claimTest : (ev.setCbi c).claimTest = ev.claimTest := rfl
@[simp] theorem Ev.setCbi_freshRaise : (ev.setCbi c).freshRaise = ev.freshRaise := rfl
@[simp] theorem Ev.setCbi_handover : (ev.setCbi c).handover = ev.handover := rfl

end

section
variable (t : List Package) (ev : Ev)

@[simp] theorem Ev.setTable_s : (ev.setTable t).s = { ev.s with pks := { ev.s.pks with table := t } } := rfl
@[simp] theorem Ev.setTable_raised : (ev.setTable t).raised = ev.raised := rfl
@[simp] theorem Ev.setTable_figures : (ev.setTable t).figures = ev.figures := rfl
@[simp] theorem Ev.setTable_setpoints : (ev.setTable t).setpoints = ev.setpoints := rfl
@[simp] theorem Ev.setTable_evals : (ev.setTable t).evals = ev.evals := rfl
@[simp] theorem Ev.setTable_placed : (ev.setTable t).placed = ev.placed := rfl
@[simp] theorem Ev.setTable_report : (ev.setTable t).report = ev.report := rfl
@[simp] theorem Ev.setTable_share : (ev.setTable t).share = ev.share := rfl
@[simp] theorem Ev.setTable_overdraw : (ev.setTable t).overdraw = ev.overdraw := rfl
@[simp] theorem Ev.setTable_split : (ev.setTable t).split = ev.split := rfl
@[simp] theorem Ev.setTable_rework : (ev.setTable t).rework = ev.rework := rfl
@[simp] theorem Ev.setTable_engines : (ev.setTable t).engines = ev.engines := rfl
@[simp] theorem Ev.setTable_claim : (ev.setTable t).claim = ev.claim := rfl
@[simp] theorem Ev.setTable_claimTest : (ev.setTable t).claimTest = ev.claimTest := rfl
@[simp] theorem Ev.setTable_freshRaise : (ev.setTable t).freshRaise = ev.freshRaise := rfl
@[simp] theorem Ev.setTable_handover : (ev.setTable t).handover = ev.handover := rfl

end

section
variable (l : Lkc) (ev : Ev)

@[simp] theorem Ev.setQueueAndDrivers_s : (ev.setQueueAndDrivers l).s = { ev.s with lkc := l } := rfl
@[simp] theorem Ev.setQueueAndDrivers_raised : (ev.setQueueAndDrivers l).raised = ev.raised := rfl
@[simp] theorem Ev.setQueueAndDrivers_figures : (ev.setQueueAndDrivers l).figures = ev.figures := rfl
@[simp] theorem Ev.setQueueAndDrivers_setpoints : (ev.setQueueAndDrivers l).setpoints = ev.setpoints := rfl
@[simp] theorem Ev.setQueueAndDrivers_evals : (ev.setQueueAndDrivers l).evals = ev.evals := rfl
@[simp] theorem Ev.setQueueAndDrivers_placed : (ev.setQueueAndDrivers l).placed = ev.placed := rfl
@[simp] theorem Ev.setQueueAndDrivers_report : (ev.setQueueAndDrivers l).report = (ev.report || decide (l.floorPower ≠ ev.s.lkc.floorPower)) := rfl
@[simp] theorem Ev.setQueueAndDrivers_share : (ev.setQueueAndDrivers l).share = ev.share := rfl
@[simp] theorem Ev.setQueueAndDrivers_overdraw : (ev.setQueueAndDrivers l).overdraw = ev.overdraw := rfl
@[simp] theorem Ev.setQueueAndDrivers_split : (ev.setQueueAndDrivers l).split = (ev.split || decide (l.power ≠ ev.s.lkc.power)) := rfl
@[simp] theorem Ev.setQueueAndDrivers_rework : (ev.setQueueAndDrivers l).rework = true := rfl
@[simp] theorem Ev.setQueueAndDrivers_engines : (ev.setQueueAndDrivers l).engines = ev.engines := rfl
@[simp] theorem Ev.setQueueAndDrivers_claim : (ev.setQueueAndDrivers l).claim = ev.claim := rfl
@[simp] theorem Ev.setQueueAndDrivers_claimTest : (ev.setQueueAndDrivers l).claimTest = ev.claimTest := rfl
@[simp] theorem Ev.setQueueAndDrivers_freshRaise : (ev.setQueueAndDrivers l).freshRaise = ev.freshRaise := rfl
@[simp] theorem Ev.setQueueAndDrivers_handover : (ev.setQueueAndDrivers l).handover = ev.handover := rfl

end

end Sys2Proof.Machine
end

