-- ==== Sys2Proof/Laws/Kept.lean ====
section
/-! SUPPORT. What the working out of an event never changes: one lemma per function that an event's settling calls. A
frame over a whole event follows from these, with no function unfolded again. -/

namespace Sys2Proof.Machine

/-! ### The part that settling keeps -/

/-- A bay of the Bay Supply Controller without its figures, grant, setpoints and output. -/
def BscBay.kept (x : BscBay) : BscBay :=
  { BscBay.reset x.weight with supply := x.supply, fixed := x.fixed }

/-- A bay of the Dock Line Controller without its transfer and last transfer end. -/
def DlcBay.kept (x : DlcBay) : DlcBay :=
  { x with transfer := none, lastEnd := none }

/-- A bay of the Package Store without its list. -/
def PksBay.kept (x : PksBay) : PksBay :=
  { x with list := [] }

/-- A bay of the Lock Controller without its lock state and release record. -/
def LkcBay.kept (x : LkcBay) : LkcBay :=
  { x with lock := none, release := none }

/-- The Share Unit without the results of its computations, the applied limit, the trimmed flag and the own figures. -/
def Shu.kept (u : Shu) : Shu :=
  { u with
    peers := u.peers.map fun p => { p with g := 0 }
    cEff := 0, rsv := 0, share := 0, floorGrant := 0, lapp := 0, raise := none, trimmed := false
    d := 0, f := 0, w := 0 }

/-- The part of the state that the settling of an event keeps: the state with all that settling may change put at fixed
values. -/
def State.kept (s : State) : State :=
  { s with
    shu := s.shu.kept
    bsc := { s.bsc with bays := PerBay.ofFn fun b => (s.bscBay b).kept }
    dlc :=
      { queue := [], deferred := [], engine1 := .idle, engine2 := .idle,
        bays := PerBay.ofFn fun b => (s.dlcBay b).kept }
    pks := { s.pks with table := [], nextSettle := 0, bays := PerBay.ofFn fun b => (s.pksBay b).kept }
    lkc := { queue := [], driver1 := .free, driver2 := .free, bays := PerBay.ofFn fun b => (s.lkcBay b).kept } }

theorem State.kept_bscBay {s t : State} (h : s.kept = t.kept) (b : BayId) :
    (s.bscBay b).kept = (t.bscBay b).kept := by
  simpa [State.kept] using congrArg (fun x : State => x.bsc.bays.get b) h

theorem State.kept_dlcBay {s t : State} (h : s.kept = t.kept) (b : BayId) :
    (s.dlcBay b).kept = (t.dlcBay b).kept := by
  simpa [State.kept] using congrArg (fun x : State => x.dlc.bays.get b) h

theorem State.kept_pksBay {s t : State} (h : s.kept = t.kept) (b : BayId) :
    (s.pksBay b).kept = (t.pksBay b).kept := by
  simpa [State.kept] using congrArg (fun x : State => x.pks.bays.get b) h

theorem State.kept_lkcBay {s t : State} (h : s.kept = t.kept) (b : BayId) :
    (s.lkcBay b).kept = (t.lkcBay b).kept := by
  simpa [State.kept] using congrArg (fun x : State => x.lkc.bays.get b) h

/-! ### The updates -/

theorem State.kept_setBscBay {s : State} {b : BayId} {x : BscBay} (h : x.kept = (s.bscBay b).kept) :
    (s.setBscBay b x).kept = s.kept := by
  have e : (PerBay.ofFn fun c => ((s.setBscBay b x).bscBay c).kept) = PerBay.ofFn fun c => (s.bscBay c).kept := by
    refine PerBay.ext_get fun c => ?_
    simp only [PerBay.get_ofFn, State.setBscBay_bscBay]
    split
    · rename_i hc; subst hc; exact h
    · rfl
  unfold State.kept
  rw [e]
  rfl

theorem State.kept_setDlcBay {s : State} {b : BayId} {x : DlcBay} (h : x.kept = (s.dlcBay b).kept) :
    (s.setDlcBay b x).kept = s.kept := by
  have e : (PerBay.ofFn fun c => ((s.setDlcBay b x).dlcBay c).kept) = PerBay.ofFn fun c => (s.dlcBay c).kept := by
    refine PerBay.ext_get fun c => ?_
    simp only [PerBay.get_ofFn, State.setDlcBay_dlcBay]
    split
    · rename_i hc; subst hc; exact h
    · rfl
  unfold State.kept
  rw [e]
  rfl

theorem State.kept_setPksBay {s : State} {b : BayId} {x : PksBay} (h : x.kept = (s.pksBay b).kept) :
    (s.setPksBay b x).kept = s.kept := by
  have e : (PerBay.ofFn fun c => ((s.setPksBay b x).pksBay c).kept) = PerBay.ofFn fun c => (s.pksBay c).kept := by
    refine PerBay.ext_get fun c => ?_
    simp only [PerBay.get_ofFn, State.setPksBay_pksBay]
    split
    · rename_i hc; subst hc; exact h
    · rfl
  unfold State.kept
  rw [e]
  rfl

theorem State.kept_setLkcBay {s : State} {b : BayId} {x : LkcBay} (h : x.kept = (s.lkcBay b).kept) :
    (s.setLkcBay b x).kept = s.kept := by
  have e : (PerBay.ofFn fun c => ((s.setLkcBay b x).lkcBay c).kept) = PerBay.ofFn fun c => (s.lkcBay c).kept := by
    refine PerBay.ext_get fun c => ?_
    simp only [PerBay.get_ofFn, State.setLkcBay_lkcBay]
    split
    · rename_i hc; subst hc; exact h
    · rfl
  unfold State.kept
  rw [e]
  rfl

theorem State.kept_bscBays {s : State} {p : PerBay BscBay} (h : ∀ c, (p.get c).kept = (s.bscBay c).kept) :
    ({ s with bsc := { s.bsc with bays := p } } : State).kept = s.kept := by
  have e : (PerBay.ofFn fun c => (p.get c).kept) = PerBay.ofFn fun c => (s.bscBay c).kept :=
    PerBay.ext_get fun c => by simp only [PerBay.get_ofFn, h]
  unfold State.kept
  rw [← e]
  rfl

theorem Ev.updBsc_kept (b : BayId) {f : BscBay → BscBay} (ev : Ev) (h : ∀ x, (f x).kept = x.kept) :
    (ev.updBsc b f).s.kept = ev.s.kept :=
  State.kept_setBscBay (h _)

theorem Ev.updDlc_kept (b : BayId) {f : DlcBay → DlcBay} (ev : Ev) (h : ∀ x, (f x).kept = x.kept) :
    (ev.updDlc b f).s.kept = ev.s.kept :=
  State.kept_setDlcBay (h _)

theorem Ev.updPks_kept (b : BayId) {f : PksBay → PksBay} (ev : Ev) (h : ∀ x, (f x).kept = x.kept) :
    (ev.updPks b f).s.kept = ev.s.kept :=
  State.kept_setPksBay (h _)

theorem Ev.updLkc_kept (b : BayId) {f : LkcBay → LkcBay} (ev : Ev) (h : ∀ x, (f x).kept = x.kept) :
    (ev.updLkc b f).s.kept = ev.s.kept :=
  State.kept_setLkcBay (h _)

theorem Ev.setShu_kept {u : Shu} (ev : Ev) (h : u.kept = ev.s.shu.kept) : (ev.setShu u).s.kept = ev.s.kept := by
  unfold State.kept Ev.setShu
  simp only [h]
  rfl

theorem Ev.setTable_kept (t : List Package) (ev : Ev) : (ev.setTable t).s.kept = ev.s.kept := rfl

theorem Ev.setDlc_kept {d : Dlc} (ev : Ev) (h : d.bays = ev.s.dlc.bays) : (ev.setDlc d).s.kept = ev.s.kept := by
  cases d
  simp only at h
  subst h
  rfl

theorem Ev.setQueueAndDrivers_kept {l : Lkc} (ev : Ev) (h : l.bays = ev.s.lkc.bays) :
    (ev.setQueueAndDrivers l).s.kept = ev.s.kept := by
  cases l
  simp only at h
  subst h
  rfl

@[simp] theorem Dlc.setEngine_bays (d : Dlc) (i : EngineId) (e : Engine) : (d.setEngine i e).bays = d.bays := by
  cases i <;> rfl

@[simp] theorem Lkc.setDriver_bays (l : Lkc) (i : DriverId) (d : Driver) : (l.setDriver i d).bays = l.bays := by
  cases i <;> rfl

theorem Ev.foldl_kept {α : Type} {f : Ev → α → Ev} (h : ∀ e a, (f e a).s.kept = e.s.kept) :
    ∀ (l : List α) (ev : Ev), (l.foldl f ev).s.kept = ev.s.kept
  | [], _ => rfl
  | a :: l, ev => by rw [List.foldl_cons, Ev.foldl_kept h l, h]

/-! ### The work queue and the engines -/

theorem Ev.placeItem_kept (b : BayId) (k : ItemKind) (ev : Ev) : (ev.placeItem b k).s.kept = ev.s.kept := rfl

theorem Ev.request_kept (b : BayId) (k : ItemKind) (ev : Ev) : (ev.request b k).s.kept = ev.s.kept := by
  unfold Ev.request
  dsimp only
  split_ifs <;> rfl

theorem Ev.placeDeferred_kept (ev : Ev) : ev.placeDeferred.s.kept = ev.s.kept := by
  unfold Ev.placeDeferred
  dsimp only
  split
  · rfl
  · rw [Ev.request_kept]; rfl

theorem Ev.leaveQueue_kept (b : BayId) (k : ItemKind) (ev : Ev) : (ev.leaveQueue b k).s.kept = ev.s.kept := by
  unfold Ev.leaveQueue
  split
  · rw [Ev.placeDeferred_kept]; rfl
  · rfl

theorem Ev.evaluate_kept (ev : Ev) (b : BayId) : (ev.evaluate b).s.kept = ev.s.kept := by
  unfold Ev.evaluate
  split
  · exact Ev.request_kept _ _ _
  · rfl

theorem Ev.evaluateBays_kept (ev : Ev) : ev.evaluateBays.s.kept = ev.s.kept :=
  Ev.foldl_kept Ev.evaluate_kept _ _

theorem Ev.send_kept (i : EngineId) (item : WorkItem) (r : Request) (ev : Ev) :
    (ev.send i item r).s.kept = ev.s.kept :=
  Ev.setDlc_kept _ (Dlc.setEngine_bays _ _ _)

theorem Ev.release_kept (i : EngineId) (ev : Ev) : (ev.release i).s.kept = ev.s.kept :=
  Ev.setDlc_kept ev (Dlc.setEngine_bays _ _ _)

theorem Ev.endModeWait_kept (b : BayId) (ev : Ev) : (ev.endModeWait b).s.kept = ev.s.kept := rfl

theorem Ev.reportMode_kept (b : BayId) (free : Bool) (ev : Ev) : (ev.reportMode b free).s.kept = ev.s.kept := by
  unfold Ev.reportMode
  split <;> rfl

theorem Ev.modeUnanswered_kept (b : BayId) (free : Bool) (ev : Ev) :
    (ev.modeUnanswered b free).s.kept = ev.s.kept :=
  Ev.reportMode_kept _ _ _

/-! ### Packages and transfers -/

theorem Ev.setList_kept (b : BayId) (l : List Nat) (ev : Ev) : (ev.setList b l).s.kept = ev.s.kept := by
  unfold Ev.setList
  dsimp only
  split_ifs
  · rfl
  · exact Ev.updPks_kept (f := fun x => { x with list := l }) b ev fun _ => by rfl
  · exact Ev.updPks_kept (f := fun x => { x with list := l }) b ev fun _ => by rfl

theorem Ev.unlist_kept (id : Nat) (ev : Ev) (b : BayId) : (Ev.unlist id ev b).s.kept = ev.s.kept :=
  Ev.setList_kept _ _ _

theorem Ev.settlePackage_kept (id : Nat) (st : PackageState) (ev : Ev) :
    (ev.settlePackage id st).s.kept = ev.s.kept := rfl

theorem Ev.completePackage_kept (id : Nat) (ev : Ev) : (ev.completePackage id).s.kept = ev.s.kept := by
  unfold Ev.completePackage
  split
  · rfl
  · split <;> rfl

theorem Ev.recordResult_kept (b : BayId) (id : Nat) (r : TransferResult) (ev : Ev) :
    (ev.recordResult b id r).s.kept = ev.s.kept := by
  unfold Ev.recordResult
  split
  · rfl
  · split
    · rfl
    · dsimp only
      split_ifs
      · rw [Ev.completePackage_kept, Ev.unlist_kept]; rfl
      · rw [Ev.completePackage_kept, Ev.unlist_kept]; rfl
      · rfl
      · rfl

theorem Ev.freeWithdrawn_kept (id : Nat) (ev : Ev) : (ev.freeWithdrawn id).s.kept = ev.s.kept := by
  unfold Ev.freeWithdrawn
  split
  · split <;> rfl
  · rfl

/-- The end of a transfer by an abort, the one end that settling brings about. -/
theorem Ev.endTransfer_kept (b : BayId) (cause : AbortCause) (ev : Ev) :
    (ev.endTransfer b (.aborted cause)).s.kept = ev.s.kept := by
  unfold Ev.endTransfer
  split
  · rfl
  · show (Ev.freeWithdrawn _ _).s.kept = _
    rw [Ev.freeWithdrawn_kept]
    refine (Ev.updDlc_kept _ _ fun _ => by rfl).trans ?_
    exact Ev.recordResult_kept _ _ _ _

theorem Ev.endPackageItem_kept (i : EngineId) (b : BayId) (ev : Ev) : (ev.endPackageItem i b).s.kept = ev.s.kept :=
  Ev.release_kept i ev

theorem Ev.startTransfer_kept (i : EngineId) (item : WorkItem) (ev : Ev) :
    (ev.startTransfer i item).s.kept = ev.s.kept := by
  unfold Ev.startTransfer
  split
  · exact Ev.endPackageItem_kept _ _ _
  · rename_i p _
    refine (Ev.send_kept _ _ _ _).trans ?_
    exact Ev.updDlc_kept (f := fun x => { x with transfer := some ⟨p.id, p.length, 0, false, false, false⟩ }) _ ev
      fun _ => by rfl

theorem Ev.continueOrEnd_kept (i : EngineId) (item : WorkItem) (ev : Ev) :
    (ev.continueOrEnd i item).s.kept = ev.s.kept := by
  unfold Ev.continueOrEnd
  split
  · exact Ev.startTransfer_kept _ _ _
  · exact Ev.endPackageItem_kept _ _ _

theorem Ev.abortTransfer_kept (i : EngineId) (item : WorkItem) (cause : AbortCause) (ev : Ev) :
    (ev.finishTransfer i item (.aborted cause)).s.kept = ev.s.kept := by
  unfold Ev.finishTransfer
  rw [Ev.continueOrEnd_kept, Ev.endTransfer_kept]

theorem Ev.startExchange_kept (i : EngineId) (item : WorkItem) (ev : Ev) :
    (ev.startExchange i item).s.kept = ev.s.kept := by
  unfold Ev.startExchange
  split
  · exact Ev.send_kept _ _ _ _
  · exact Ev.send_kept _ _ _ _
  · split
    · exact Ev.send_kept _ _ _ _
    · rw [Ev.release_kept, Ev.modeUnanswered_kept]
  · split
    · exact Ev.send_kept _ _ _ _
    · rw [Ev.release_kept, Ev.modeUnanswered_kept]
  · rfl

theorem Ev.suspend_kept (i : EngineId) (item waiting : WorkItem) (ev : Ev) :
    (ev.suspend i item waiting).s.kept = ev.s.kept := by
  unfold Ev.suspend
  rw [Ev.startExchange_kept]
  show (Ev.setDlc _ _).s.kept = _
  rw [Ev.setDlc_kept _ (by simp)]
  exact Ev.updDlc_kept _ ev fun _ => by rfl

theorem Ev.boundary_kept (i : EngineId) (item : WorkItem) (ev : Ev) : (ev.boundary i item).s.kept = ev.s.kept := by
  unfold Ev.boundary
  split
  · exact Ev.endPackageItem_kept _ _ _
  · split
    · exact Ev.abortTransfer_kept _ _ _ _
    · split
      · exact Ev.suspend_kept _ _ _ _
      · exact Ev.send_kept _ _ _ _

theorem Ev.takePackage_kept (i : EngineId) (item : WorkItem) (ev : Ev) :
    (ev.takePackage i item).s.kept = ev.s.kept := by
  unfold Ev.takePackage
  split
  · rw [Ev.boundary_kept]
    exact Ev.updDlc_kept _ ev fun _ => by rfl
  · split
    · exact Ev.startTransfer_kept _ _ _
    · exact Ev.endPackageItem_kept _ _ _

theorem Ev.takeItem_kept (i : EngineId) (item : WorkItem) (ev : Ev) : (ev.takeItem i item).s.kept = ev.s.kept := by
  unfold Ev.takeItem
  dsimp only
  split
  · rw [Ev.takePackage_kept, Ev.leaveQueue_kept]
  · rw [Ev.startExchange_kept, Ev.leaveQueue_kept]

theorem Ev.lookForItem_kept (i : EngineId) (ev : Ev) : (ev.lookForItem i).s.kept = ev.s.kept := by
  unfold Ev.lookForItem
  split
  · split
    · exact Ev.takeItem_kept _ _ _
    · rfl
  · rfl

theorem Ev.runEngines_kept (ev : Ev) : ev.runEngines.s.kept = ev.s.kept := by
  unfold Ev.runEngines
  rw [Ev.lookForItem_kept, Ev.lookForItem_kept]

theorem Ev.abortSuspended_kept (b : BayId) (cause : AbortCause) (ev : Ev) :
    (ev.abortSuspended b cause).s.kept = ev.s.kept := by
  unfold Ev.abortSuspended
  split
  · split
    · show (Ev.endTransfer _ _ _).s.kept = _
      rw [Ev.endTransfer_kept, Ev.leaveQueue_kept]
    · rfl
  · rfl

theorem Ev.setTakeover_kept (b : BayId) (ev : Ev) : (ev.setTakeover b).s.kept = ev.s.kept := by
  unfold Ev.setTakeover
  rw [Ev.abortSuspended_kept]
  exact Ev.updDlc_kept _ ev fun _ => by rfl

/-! ### Locks and releases -/

theorem Ev.setLock_kept (b : BayId) (l : LockState) (ev : Ev) : (ev.setLock b l).s.kept = ev.s.kept := by
  have h : (ev.updLkc b fun x => { x with lock := some l }).s.kept = ev.s.kept := Ev.updLkc_kept _ _ fun _ => by rfl
  unfold Ev.setLock
  dsimp only
  split_ifs <;> simp only [Ev.abortSuspended_kept, Ev.request_kept, Ev.needFigures_s] <;> first | rfl | exact h

theorem Ev.removeEntry_kept (b : BayId) (ev : Ev) : (ev.removeEntry b).s.kept = ev.s.kept := rfl

theorem Ev.endRelease_kept (b : BayId) (kind : ReleaseKind) (o : ReleaseOutcome) (ev : Ev) :
    (ev.endRelease b kind o).s.kept = ev.s.kept := by
  have h : (ev.setOutcome b o).s.kept = ev.s.kept := Ev.updLkc_kept _ _ fun _ => by rfl
  unfold Ev.endRelease Ev.restoreMode
  split
  · rw [Ev.request_kept, h]
  · exact h

theorem Ev.takeEntry_kept (i : DriverId) (e : ReleaseEntry) (ev : Ev) : (ev.takeEntry i e).s.kept = ev.s.kept := by
  unfold Ev.takeEntry
  show (Ev.setLock _ _ _).s.kept = _
  rw [Ev.setLock_kept, Ev.setQueueAndDrivers_kept _ (by simp)]

theorem Ev.dropUnpowered_kept (e : ReleaseEntry) (ev : Ev) : (ev.dropUnpowered e).s.kept = ev.s.kept := by
  unfold Ev.dropUnpowered
  dsimp only
  split
  · rw [Ev.setLock_kept, Ev.endRelease_kept]; rfl
  · rw [Ev.endRelease_kept]; rfl

theorem Ev.reworkEntries_kept (ev : Ev) : ev.reworkEntries.s.kept = ev.s.kept := by
  unfold Ev.reworkEntries
  dsimp only
  split
  · rw [Ev.dropUnpowered_kept]
  · split
    · show (Ev.setTakeover _ _).s.kept = _
      rw [Ev.setTakeover_kept]
    · split
      · rw [Ev.takeEntry_kept]
      · rfl

/-! ### Shares, figures, the split -/

theorem Ev.changeShu_kept {u : Shu} (ev : Ev) (h : u.kept = ev.s.shu.kept) : (ev.changeShu u).s.kept = ev.s.kept :=
  Ev.setShu_kept ev h

theorem storeShares_kept : ∀ (ps : List Peer) (gs : List Nat),
    (storeShares ps gs).map (fun p : Peer => { p with g := 0 }) = ps.map fun p => { p with g := 0 }
  | [], _ => rfl
  | p :: ps, gs => by
    unfold storeShares
    split <;> simp [storeShares_kept ps]

theorem shareComputation_kept (s : State) : (shareComputation s).kept = s.shu.kept := by
  have h1 : (isolatedComputation s).kept = s.shu.kept := by
    simp [isolatedComputation, Shu.kept, Function.comp_def]
  have h2 : (singleComputation s).kept = s.shu.kept := by
    simp [singleComputation, Shu.kept, Function.comp_def]
  have h3 : (fullComputation s).kept = s.shu.kept := by
    simp [fullComputation, Shu.kept, storeShares_kept]
  unfold shareComputation
  split <;> first | exact h1 | (split <;> first | exact h2 | exact h3)

theorem followShare_kept (station : StationState) (hold now : Nat) (u : Shu) :
    (followShare station hold now u).kept = u.kept := by
  unfold followShare
  split_ifs <;> first | rfl | (split <;> rfl)

theorem Ev.computeShare_kept (ev : Ev) : ev.computeShare.s.kept = ev.s.kept := by
  unfold Ev.computeShare
  dsimp only
  split
  · exact Ev.changeShu_kept _ ((followShare_kept _ _ _ _).trans (shareComputation_kept _))
  · rfl

theorem Ev.checkOverdraw_kept (ev : Ev) : ev.checkOverdraw.s.kept = ev.s.kept := by
  unfold Ev.checkOverdraw
  dsimp only
  split
  · refine (Ev.changeShu_kept _ ?_).trans rfl
    rfl
  · rfl

theorem Ev.compose_kept (ev : Ev) : ev.compose.s.kept = ev.s.kept := by
  unfold Ev.compose
  dsimp only
  split
  · rfl
  · rfl

theorem Ev.computeBay_kept (b : BayId) (ev : Ev) : (ev.computeBay b).s.kept = ev.s.kept :=
  State.kept_setBscBay rfl

theorem Ev.computeFigures_kept (ev : Ev) : ev.computeFigures.s.kept = ev.s.kept :=
  Ev.foldl_kept (fun e b => Ev.computeBay_kept b e) _ _

theorem BscBay.takeSetpoint_kept (now : Nat) (x : BscBay) : (x.takeSetpoint now).kept = x.kept := by
  unfold BscBay.takeSetpoint
  dsimp only
  split <;> rfl

theorem Ev.computeSetpoint_kept (ev : Ev) (b : BayId) : (ev.computeSetpoint b).s.kept = ev.s.kept :=
  Ev.updBsc_kept _ _ (BscBay.takeSetpoint_kept _)

theorem BscBay.grant_kept (x : BscBay) (n : Nat) : ({ x with grant := n } : BscBay).kept = x.kept := rfl

theorem Ev.runSplit_kept (ev : Ev) : ev.runSplit.s.kept = ev.s.kept := by
  unfold Ev.runSplit
  refine (Ev.foldl_kept Ev.computeSetpoint_kept _ _).trans ?_
  refine State.kept_bscBays fun c => ?_
  simp only [grantBays, PerBay.get_ofFn]
  exact BscBay.grant_kept _ _

theorem Ev.splitOrSetpoints_kept (ev : Ev) : ev.splitOrSetpoints.s.kept = ev.s.kept := by
  unfold Ev.splitOrSetpoints
  split
  · exact Ev.runSplit_kept _
  · exact Ev.foldl_kept Ev.computeSetpoint_kept _ _

/-! ### Settling -/

theorem Ev.ite_kept {c : Prop} [Decidable c] {a b : Ev} {s : State} (ha : a.s.kept = s.kept)
    (hb : b.s.kept = s.kept) : (if c then a else b).s.kept = s.kept := by
  split
  · exact ha
  · exact hb

theorem Ev.figureRound_kept (ev : Ev) : ev.figureRound.s.kept = ev.s.kept := by
  unfold Ev.figureRound
  extract_lets ev1 ev2 ev3 ev4
  have h1 : ev1.s.kept = ev.s.kept := Ev.ite_kept rfl (Ev.computeFigures_kept _)
  have h2 : ev2.s.kept = ev.s.kept := Ev.ite_kept ((Ev.compose_kept _).trans h1) h1
  have h3 : ev3.s.kept = ev.s.kept := Ev.ite_kept ((Ev.computeShare_kept _).trans h2) h2
  have h4 : ev4.s.kept = ev.s.kept := Ev.ite_kept ((Ev.checkOverdraw_kept _).trans h3) h3
  exact Ev.ite_kept ((Ev.reworkEntries_kept _).trans h4) h4

theorem Ev.figureRounds_kept : ∀ (n : Nat) (ev : Ev), (ev.figureRounds n).s.kept = ev.s.kept
  | 0, _ => rfl
  | n + 1, ev => by
    unfold Ev.figureRounds
    split
    · rw [Ev.figureRounds_kept n, Ev.figureRound_kept]
    · rfl

theorem Ev.settleRound_kept (ev : Ev) : ev.settleRound.s.kept = ev.s.kept := by
  unfold Ev.settleRound
  extract_lets ev1 ev2 ev3
  have h1 : ev1.s.kept = ev.s.kept := Ev.figureRounds_kept _ _
  have h2 : ev2.s.kept = ev.s.kept := Ev.ite_kept ((Ev.splitOrSetpoints_kept _).trans h1) h1
  have h3 : ev3.s.kept = ev.s.kept := Ev.ite_kept h2 ((Ev.evaluateBays_kept _).trans h2)
  exact Ev.ite_kept ((Ev.runEngines_kept _).trans h3) h3

theorem Ev.settleRounds_kept : ∀ (n : Nat) (ev : Ev), (ev.settleRounds n).s.kept = ev.s.kept
  | 0, _ => rfl
  | n + 1, ev => by
    unfold Ev.settleRounds
    split
    · rw [Ev.settleRounds_kept n, Ev.settleRound_kept]
    · rfl

/-- Settling an event keeps all that `State.kept` names. -/
theorem Ev.settle_kept (ev : Ev) : ev.settle.s.kept = ev.s.kept :=
  Ev.settleRounds_kept _ _

/-- An event with nothing left to be worked out is settled as it stands. -/
theorem Ev.settle_of_not_busy {ev : Ev} (h : ev.busy = false) : ev.settle = ev := by
  simp [Ev.settle, Ev.settleRounds, h]

end Sys2Proof.Machine
end

