-- ==== Sys2Proof/Laws/Event.lean ====
section
/-! SUPPORT. What the end of an event can do beyond settling, what an event with nothing to work out leaves, and when an
event, an expiry, a frame and a command come about. -/

namespace Sys2Proof.Machine

/-! ### The claim and the notices of an event -/

/-- The part of the state that the end of an event may change: the transmit queue with its running number, the pending
notices with the overflow indicator, the last placed figures and the pending raise, each given. -/
def State.withEmitted (s : State) (queue : List TxFrame) (nextAge : Nat) (entries : List Pending) (overflow : Bool)
    (lastPlaced : Option ClaimFigures) (raise : Option Raise) : State :=
  { s with
    cbi := { s.cbi with queue := queue, nextAge := nextAge }
    ntu := { s.ntu with entries := entries, overflow := overflow }
    shu := { s.shu with lastPlaced := lastPlaced, raise := raise } }

/-- Whether a state differs from another only in what the end of an event may change. -/
def State.emittedFrom (t s : State) : Prop :=
  ∃ q n e o l r, t = s.withEmitted q n e o l r

theorem State.emittedFrom_refl (s : State) : s.emittedFrom s :=
  ⟨_, _, _, _, _, _, rfl⟩

theorem State.emittedFrom_trans {s t u : State} (h1 : u.emittedFrom t) (h2 : t.emittedFrom s) : u.emittedFrom s := by
  obtain ⟨q, n, e, o, l, r, rfl⟩ := h2
  obtain ⟨q', n', e', o', l', r', rfl⟩ := h1
  exact ⟨q', n', e', o', l', r', rfl⟩

theorem placeFrame_emittedFrom (k : TxKind) (p : List Byte) (m : Bool) (s : State) :
    (placeFrame k p m s).emittedFrom s :=
  ⟨_, _, _, _, _, _, rfl⟩

theorem placeClaimFrame_emittedFrom (p : List Byte) (s : State) : (placeClaimFrame p s).emittedFrom s := by
  unfold placeClaimFrame
  split
  · exact ⟨_, _, _, _, _, _, rfl⟩
  · exact placeFrame_emittedFrom _ _ _ _

theorem Ev.claims_emittedFrom (ev : Ev) : ev.claims.s.emittedFrom ev.s := by
  unfold Ev.claims
  dsimp only
  split
  · exact State.emittedFrom_trans (placeClaimFrame_emittedFrom _ _) ⟨_, _, _, _, _, _, rfl⟩
  · exact State.emittedFrom_refl _

theorem Ev.fixOrigin_emittedFrom (ev : Ev) : ev.fixOrigin.s.emittedFrom ev.s := by
  unfold Ev.fixOrigin
  dsimp only
  split
  · split
    · exact ⟨_, _, _, _, _, _, rfl⟩
    · exact State.emittedFrom_refl _
  · exact State.emittedFrom_refl _

theorem handOver_emittedFrom (s : State) : (handOver s).emittedFrom s := by
  unfold handOver
  split
  · split
    · exact State.emittedFrom_refl _
    · exact ⟨_, _, _, _, _, _, rfl⟩
  · exact State.emittedFrom_refl _

theorem enterNotice_mask (levels : List Nat) (now : Nat) (n : Notice) (u : Ntu) :
    (enterNotice levels now n u).mask = u.mask := by
  unfold enterNotice
  dsimp only
  split_ifs <;> rfl

theorem enterNotices_mask (levels : List Nat) (now : Nat) (ns : List Notice) (u : Ntu) :
    (enterNotices levels now ns u).mask = u.mask := by
  unfold enterNotices
  induction orderNotices ns generalizing u with
  | nil => rfl
  | cons n rest ih => rw [List.foldl_cons, ih, enterNotice_mask]

theorem State.emittedFrom_ntu (s : State) {u : Ntu} (h : u.mask = s.ntu.mask) :
    ({ s with ntu := u } : State).emittedFrom s := by
  obtain ⟨entries, mask, overflow⟩ := u
  simp only at h
  subst h
  exact ⟨_, _, _, _, _, _, rfl⟩

theorem Ev.notices_emittedFrom (ev : Ev) : ev.notices.s.emittedFrom ev.s := by
  have h := State.emittedFrom_ntu ev.s (enterNotices_mask ev.s.settings.levels ev.s.now ev.raised ev.s.ntu)
  unfold Ev.notices
  dsimp only
  split
  · exact State.emittedFrom_trans (handOver_emittedFrom _) (State.emittedFrom_trans (handOver_emittedFrom _) h)
  · exact h

/-- The end of an event changes no more than `State.withEmitted` names. -/
theorem Ev.finish_emittedFrom (ev : Ev) : ev.finish.emittedFrom ev.settle.s :=
  State.emittedFrom_trans (Ev.notices_emittedFrom _)
    (State.emittedFrom_trans (Ev.fixOrigin_emittedFrom _) (Ev.claims_emittedFrom _))

/-! ### What a whole event keeps -/

/-- The state with all that settling and the end of an event may change put at fixed values. -/
def State.still (s : State) : State :=
  s.kept.withEmitted [] 0 [] false none none

theorem State.still_of_emittedFrom {s t : State} (h : t.emittedFrom s) : t.still = s.still := by
  obtain ⟨_, _, _, _, _, _, rfl⟩ := h
  rfl

/-- A whole event, from the state that its own rule leaves, keeps all that `State.still` names. -/
theorem Ev.finish_still (ev : Ev) : ev.finish.still = ev.s.still := by
  rw [State.still_of_emittedFrom ev.finish_emittedFrom]
  unfold State.still
  rw [Ev.settle_kept]

section
variable {s t : State} (h : s.still = t.still)
include h

theorem State.still_pending : s.pending = t.pending := (congrArg State.pending h :)
theorem State.still_now : s.now = t.now := (congrArg State.now h :)
theorem State.still_free : s.free = t.free := (congrArg State.free h :)
theorem State.still_settings : s.settings = t.settings := (congrArg State.settings h :)
theorem State.still_sul : s.sul = t.sul := (congrArg State.sul h :)
theorem State.still_station : s.cbi.station = t.cbi.station := (congrArg (fun x : State => x.cbi.station) h :)
theorem State.still_ownId : s.cbi.ownId = t.cbi.ownId := (congrArg (fun x : State => x.cbi.ownId) h :)
theorem State.still_onLine : s.cbi.onLine = t.cbi.onLine := (congrArg (fun x : State => x.cbi.onLine) h :)
theorem State.still_contending : s.cbi.contending = t.cbi.contending := (congrArg (fun x : State => x.cbi.contending) h :)
theorem State.still_mismatch : s.cbi.mismatch = t.cbi.mismatch := (congrArg (fun x : State => x.cbi.mismatch) h :)
theorem State.still_stuck : s.cbi.stuck = t.cbi.stuck := (congrArg (fun x : State => x.cbi.stuck) h :)
theorem State.still_rxErrors : s.cbi.rxErrors = t.cbi.rxErrors := (congrArg (fun x : State => x.cbi.rxErrors) h :)
theorem State.still_listenUntil : s.cbi.listenUntil = t.cbi.listenUntil := (congrArg (fun x : State => x.cbi.listenUntil) h :)
theorem State.still_isolationUntil : s.cbi.isolationUntil = t.cbi.isolationUntil :=
  (congrArg (fun x : State => x.cbi.isolationUntil) h :)
theorem State.still_panelLimit : s.shu.panelLimit = t.shu.panelLimit := (congrArg (fun x : State => x.shu.panelLimit) h :)
theorem State.still_refresh : s.shu.refresh = t.shu.refresh := (congrArg (fun x : State => x.shu.refresh) h :)
theorem State.still_peers : (s.shu.peers.map fun p => { p with g := 0 }) = t.shu.peers.map fun p => { p with g := 0 } :=
  (congrArg (fun x : State => x.shu.peers) h :)
theorem State.still_mask : s.ntu.mask = t.ntu.mask := (congrArg (fun x : State => x.ntu.mask) h :)
theorem State.still_store : s.pks.store = t.pks.store := (congrArg (fun x : State => x.pks.store) h :)
theorem State.still_derate : s.bsc.derate = t.bsc.derate := (congrArg (fun x : State => x.bsc.derate) h :)
theorem State.still_hot : s.bsc.hot = t.bsc.hot := (congrArg (fun x : State => x.bsc.hot) h :)
theorem State.still_cool : s.bsc.cool = t.bsc.cool := (congrArg (fun x : State => x.bsc.cool) h :)
theorem State.still_sensor1 : s.bsc.sensor1 = t.bsc.sensor1 := (congrArg (fun x : State => x.bsc.sensor1) h :)
theorem State.still_sensor2 : s.bsc.sensor2 = t.bsc.sensor2 := (congrArg (fun x : State => x.bsc.sensor2) h :)
theorem State.still_bscBay (b : BayId) : (s.bscBay b).kept = (t.bscBay b).kept := by
  simpa [State.still, State.withEmitted, State.kept] using congrArg (fun x : State => x.bsc.bays.get b) h
theorem State.still_dlcBay (b : BayId) : (s.dlcBay b).kept = (t.dlcBay b).kept := by
  simpa [State.still, State.withEmitted, State.kept] using congrArg (fun x : State => x.dlc.bays.get b) h
theorem State.still_pksBay (b : BayId) : (s.pksBay b).kept = (t.pksBay b).kept := by
  simpa [State.still, State.withEmitted, State.kept] using congrArg (fun x : State => x.pks.bays.get b) h
theorem State.still_lkcBay (b : BayId) : (s.lkcBay b).kept = (t.lkcBay b).kept := by
  simpa [State.still, State.withEmitted, State.kept] using congrArg (fun x : State => x.lkc.bays.get b) h

end

/-! ### An event with nothing to work out -/

/-- An event that is not busy, places no CLAIM, starts no raise and raises no notice leaves what its own rule left. -/
theorem Ev.finish_quiet {ev : Ev} (hb : ev.busy = false) (hc : ev.claim = false) (ht : ev.claimTest = false)
    (hf : ev.freshRaise = false) (hr : ev.raised = []) (hh : ev.handover = false) : ev.finish = ev.s := by
  have h1 : ev.claims = ev := by
    cases ev
    simp only at hc ht
    subst hc ht
    simp [Ev.claims]
  have h2 : ev.fixOrigin = ev := by
    cases ev
    simp only at hf
    subst hf
    unfold Ev.fixOrigin
    dsimp only
    split <;> simp_all
  have h3 : ev.notices = ev := by
    cases ev
    simp only at hr hh
    subst hr hh
    rfl
  rw [Ev.finish, Ev.settle_of_not_busy hb, Ev.emit, h1, h2, h3]

/-- An event of which nothing is noted leaves the state it started from, but for what its rule wrote. -/
theorem Ev.finish_start (s : State) : (Ev.start s).finish = s :=
  Ev.finish_quiet rfl rfl rfl rfl rfl rfl

/-! ### When events come about -/

theorem onEvent_of_runs {s : State} (h : s.runs = true) (body : Ev → Ev) : onEvent body s = (body (Ev.start s)).finish := by
  simp [onEvent, h]

theorem onEvent_of_not_runs {s : State} (h : s.runs = false) (body : Ev → Ev) : onEvent body s = s := by
  simp [onEvent, h]

theorem onTimer_some {s : State} (h : s.runs = true) (t : Nat) (body : Ev → Ev) :
    onTimer (some t) body s = (body (Ev.start (s.upTo t))).finish := by
  simp [onTimer, h]

theorem onTimer_none (body : Ev → Ev) (s : State) : onTimer none body s = s := rfl

theorem onTimer_of_not_runs {s : State} (h : s.runs = false) (due : Option Nat) (body : Ev → Ev) :
    onTimer due body s = s := by
  cases due <;> simp [onTimer, h]

theorem onFrame_of_runs {s : State} (h : s.runs = true) (sender : StationId) (body : Ev → Ev) :
    onFrame sender body s = (body ((Ev.start s).validFrom sender)).finish := by
  simp [onFrame, h]

theorem onFrame_of_not_runs {s : State} (h : s.runs = false) (sender : StationId) (body : Ev → Ev) :
    onFrame sender body s = s := by
  simp [onFrame, h]

/-! ### Requests for work (R80, R81) -/

/-- R80, R81: everything a request can do: it joins an item, is placed, takes the room of the oldest STATUS, is dropped
or handed back, or is deferred. -/
theorem Ev.request_cases (b : BayId) (k : ItemKind) (ev : Ev) :
    (ev.s.dlc.stands b k = true ∧ ev.request b k = ev) ∨
    (ev.s.dlc.stands b k = false ∧ ev.s.dlc.queue.length < 16 ∧ ev.request b k = ev.placeItem b k) ∨
    (ev.s.dlc.stands b k = false ∧ 16 ≤ ev.s.dlc.queue.length ∧ k ≠ .status ∧
      (ev.s.dlc.queue.any fun x => x.kind = .status) = true ∧
      ev.request b k = (ev.setDlc { ev.s.dlc with queue := dropStatus ev.s.dlc.queue }).placeItem b k) ∨
    (ev.s.dlc.stands b k = false ∧ 16 ≤ ev.s.dlc.queue.length ∧ ev.request b k = ev) ∨
    (ev.s.dlc.stands b k = false ∧ 16 ≤ ev.s.dlc.queue.length ∧
      (ev.s.dlc.queue.any fun x => x.kind = .status) = false ∧ k.cls = 0 ∧
      ev.request b k = ev.setDlc { ev.s.dlc with deferred := defer b k ev.s.dlc.deferred }) := by
  unfold Ev.request
  dsimp only
  by_cases h1 : ev.s.dlc.stands b k = true
  · exact .inl ⟨h1, if_pos h1⟩
  · have h1' : ev.s.dlc.stands b k = false := by simpa using h1
    rw [if_neg h1]
    by_cases h2 : ev.s.dlc.queue.length < 16
    · exact .inr (.inl ⟨h1', h2, if_pos h2⟩)
    · rw [if_neg h2]
      have h2' : 16 ≤ ev.s.dlc.queue.length := Nat.le_of_not_lt h2
      by_cases h3 : k = .status
      · exact .inr (.inr (.inr (.inl ⟨h1', h2', if_pos h3⟩)))
      · rw [if_neg h3]
        by_cases h4 : (ev.s.dlc.queue.any fun x => x.kind = .status) = true
        · exact .inr (.inr (.inl ⟨h1', h2', h3, h4, if_pos h4⟩))
        · rw [if_neg h4]
          by_cases h5 : k = .package
          · exact .inr (.inr (.inr (.inl ⟨h1', h2', if_pos h5⟩)))
          · refine .inr (.inr (.inr (.inr ⟨h1', h2', by simpa using h4, ?_, if_neg h5⟩)))
            cases k <;> simp_all [ItemKind.cls]

/-! ### Setting a lock state (R133) -/

/-- R133: the lock state of the bay after it has been set. -/
theorem Ev.setLock_same {b : BayId} {l : LockState} {ev : Ev} (h : (ev.s.lkcBay b).lock = some l) :
    ev.setLock b l = ev := by
  simp [Ev.setLock, h]

end Sys2Proof.Machine
end

