-- ==== Sys2Proof/Laws/Store.lean ====
section
/-! SUPPORT. The bytes of the package store (R92): a read after a write, and the one canonical form that every write
keeps. -/

namespace Sys2Proof.Machine

theorem storeWf_cons (a : Nat) (v : Byte) (rest : List Host.Cell) :
    storeWf ((a, v) :: rest) = true ↔
      a < 4096 ∧ v ≠ storeUnwritten ∧ (∀ c ∈ rest, a < c.1) ∧ storeWf rest = true := by
  induction rest generalizing a v with
  | nil => simp [storeWf]
  | cons c rest ih =>
    obtain ⟨a', v'⟩ := c
    rw [storeWf]
    simp only [Bool.and_eq_true, decide_eq_true_eq]
    constructor
    · rintro ⟨⟨hlt, hv⟩, hrest⟩
      have h' := (ih a' v').mp hrest
      refine ⟨by omega, hv, ?_, hrest⟩
      rintro c hc
      rcases List.mem_cons.mp hc with rfl | hc
      · exact hlt
      · exact Nat.lt_trans hlt (h'.2.2.1 c hc)
    · rintro ⟨_, hv, hall, hrest⟩
      exact ⟨⟨hall (a', v') (by simp), hv⟩, hrest⟩

theorem storeRead_of_lt {m : List Host.Cell} {x : Nat} (h : ∀ c ∈ m, x < c.1) : storeRead m x = storeUnwritten := by
  induction m with
  | nil => rfl
  | cons c rest ih =>
    obtain ⟨a, v⟩ := c
    have ha : x < a := h (a, v) (by simp)
    rw [storeRead, if_neg (by omega)]
    exact ih fun c hc => h c (by simp [hc])

theorem mem_storeWrite {m : List Host.Cell} {x : Nat} {v : Byte} {c : Host.Cell} (h : c ∈ storeWrite m x v) :
    c ∈ m ∨ c = (x, v) := by
  induction m with
  | nil =>
    unfold storeWrite at h
    split at h <;> simp_all
  | cons d rest ih =>
    obtain ⟨a, w⟩ := d
    unfold storeWrite at h
    split at h
    · split at h
      · exact .inl h
      · rcases List.mem_cons.mp h with h | h
        · exact .inr h
        · exact .inl h
    · split at h
      · split at h
        · exact .inl (by simp [h])
        · rcases List.mem_cons.mp h with h | h
          · exact .inr h
          · exact .inl (by simp [h])
      · rcases List.mem_cons.mp h with h | h
        · exact .inl (by simp [h])
        · rcases ih h with h | h
          · exact .inl (by simp [h])
          · exact .inr h

/-- A write in the store keeps the canonical form. -/
theorem storeWf_storeWrite {m : List Host.Cell} {x : Nat} {v : Byte} (hm : storeWf m = true) (hx : x < 4096) :
    storeWf (storeWrite m x v) = true := by
  induction m with
  | nil =>
    unfold storeWrite
    split
    · rfl
    · rename_i hv
      exact (storeWf_cons x v []).mpr ⟨hx, hv, by simp, rfl⟩
  | cons d rest ih =>
    obtain ⟨a, w⟩ := d
    have h := (storeWf_cons a w rest).mp hm
    unfold storeWrite
    split
    · rename_i hlt
      split
      · exact hm
      · rename_i hv
        refine (storeWf_cons x v _).mpr ⟨hx, hv, ?_, hm⟩
        rintro c hc
        rcases List.mem_cons.mp hc with rfl | hc
        · exact hlt
        · exact Nat.lt_trans hlt (h.2.2.1 c hc)
    · split
      · rename_i heq
        subst heq
        split
        · exact h.2.2.2
        · rename_i hv
          exact (storeWf_cons x v rest).mpr ⟨hx, hv, h.2.2.1, h.2.2.2⟩
      · refine (storeWf_cons a w _).mpr ⟨h.1, h.2.1, ?_, ih h.2.2.2⟩
        rintro c hc
        rcases mem_storeWrite hc with hc | rfl
        · exact h.2.2.1 c hc
        · simp only
          omega

/-- A read after a write in a store in canonical form: the byte written, and every other byte as it was. -/
theorem storeRead_storeWrite {m : List Host.Cell} (hm : storeWf m = true) (x : Nat) (v : Byte) (y : Nat) :
    storeRead (storeWrite m x v) y = if y = x then v else storeRead m y := by
  induction m with
  | nil =>
    unfold storeWrite
    split
    · rename_i hv
      subst hv
      simp [storeRead]
    · simp only [storeRead, eq_comm]
  | cons d rest ih =>
    obtain ⟨a, w⟩ := d
    have h := (storeWf_cons a w rest).mp hm
    unfold storeWrite
    split
    · rename_i hlt
      split
      · rename_i hv
        subst hv
        split
        · rename_i hy
          subst hy
          refine storeRead_of_lt ?_
          rintro c hc
          rcases List.mem_cons.mp hc with rfl | hc
          · exact hlt
          · exact Nat.lt_trans hlt (h.2.2.1 c hc)
        · rfl
      · rw [storeRead]
        simp only [eq_comm]
    · split
      · rename_i heq
        subst heq
        split
        · rename_i hv
          subst hv
          split
          · rename_i hy
            subst hy
            exact storeRead_of_lt h.2.2.1
          · rename_i hy
            rw [storeRead, if_neg (fun e => hy e.symm)]
        · simp only [storeRead]
          by_cases hy : x = y
          · simp [hy]
          · simp [hy, Ne.symm hy]
      · rename_i hne
        simp only [storeRead, ih h.2.2.2]
        by_cases ha : a = y
        · subst ha
          simp [Ne.symm hne]
        · simp [ha]

/-- Every address of a block lies in the 4096 bytes of the store. -/
theorem storeAddress_lt (base block offset : Nat) : storeAddress base block offset < 4096 := by
  unfold storeAddress
  omega

theorem storeAddress_inj {base block i j : Nat} (hi : i < 32) (hj : j < 32)
    (h : storeAddress base block i = storeAddress base block j) : i = j := by
  unfold storeAddress at h
  omega

/-- Bytes written into a block keep the canonical form. -/
theorem storeWf_storeWriteFrom (base block : Nat) (bytes : List Byte) :
    ∀ (m : List Host.Cell) (offset : Nat), storeWf m = true →
      storeWf (storeWriteFrom m base block offset bytes) = true := by
  induction bytes with
  | nil => intro m offset h; exact h
  | cons v rest ih =>
    intro m offset h
    exact ih _ _ (storeWf_storeWrite h (storeAddress_lt base block offset))

/-- Bytes written into a block from an offset on: an address outside theirs reads as before. -/
theorem storeRead_storeWriteFrom_other (base block : Nat) (bytes : List Byte) (y : Nat) :
    ∀ (m : List Host.Cell) (offset : Nat), storeWf m = true →
      (∀ k < bytes.length, y ≠ storeAddress base block (offset + k)) →
      storeRead (storeWriteFrom m base block offset bytes) y = storeRead m y := by
  induction bytes with
  | nil => intro m offset _ _; rfl
  | cons v rest ih =>
    intro m offset h hy
    rw [storeWriteFrom, ih _ _ (storeWf_storeWrite h (storeAddress_lt base block offset)), storeRead_storeWrite h,
      if_neg (by simpa using hy 0 (by simp))]
    intro k hk
    have := hy (k + 1) (by simpa using hk)
    rwa [show offset + 1 + k = offset + (k + 1) by omega]

/-- Bytes written into a block from an offset on: each reads back. -/
theorem storeRead_storeWriteFrom (base block : Nat) (bytes : List Byte) :
    ∀ (m : List Host.Cell) (offset : Nat), storeWf m = true → offset + bytes.length ≤ 32 →
      ∀ k < bytes.length,
        storeRead (storeWriteFrom m base block offset bytes) (storeAddress base block (offset + k)) =
          bytes.getD k 0 := by
  induction bytes with
  | nil => intro m offset _ _ k hk; simp at hk
  | cons v rest ih =>
    intro m offset h hlen k hk
    have hwf := storeWf_storeWrite (v := v) h (storeAddress_lt base block offset)
    simp only [List.length_cons] at hlen hk
    rw [storeWriteFrom]
    cases k with
    | zero =>
      rw [storeRead_storeWriteFrom_other _ _ _ _ _ _ hwf, storeRead_storeWrite h, Nat.add_zero, if_pos rfl]
      · rfl
      · intro k hk' he
        have := storeAddress_inj (by omega) (by omega) he
        omega
    | succ k =>
      have := ih _ (offset + 1) hwf (by omega) k (by omega)
      rw [show offset + (k + 1) = offset + 1 + k by omega, this]
      rfl

/-- Two stores in canonical form that read alike are equal. -/
theorem store_ext : ∀ {m n : List Host.Cell}, storeWf m = true → storeWf n = true →
    (∀ x, storeRead m x = storeRead n x) → m = n
  | [], [], _, _, _ => rfl
  | [], (a, v) :: n, _, hn, h => by
    have := (storeWf_cons a v n).mp hn
    have e := h a
    simp only [storeRead, ↓reduceIte] at e
    exact absurd e.symm this.2.1
  | (a, v) :: m, [], hm, _, h => by
    have := (storeWf_cons a v m).mp hm
    have e := h a
    simp only [storeRead, ↓reduceIte] at e
    exact absurd e this.2.1
  | (a, v) :: m, (b, w) :: n, hm, hn, h => by
    have h1 := (storeWf_cons a v m).mp hm
    have h2 := (storeWf_cons b w n).mp hn
    have hab : a = b := by
      rcases Nat.lt_trichotomy a b with hlt | heq | hlt
      · have e := h a
        rw [storeRead_of_lt (m := (b, w) :: n)] at e
        · simp only [storeRead, ↓reduceIte] at e
          exact absurd e h1.2.1
        · rintro c hc
          rcases List.mem_cons.mp hc with rfl | hc
          · exact hlt
          · exact Nat.lt_trans hlt (h2.2.2.1 c hc)
      · exact heq
      · have e := h b
        rw [storeRead_of_lt (m := (a, v) :: m)] at e
        · simp only [storeRead, ↓reduceIte] at e
          exact absurd e.symm h2.2.1
        · rintro c hc
          rcases List.mem_cons.mp hc with rfl | hc
          · exact hlt
          · exact Nat.lt_trans hlt (h1.2.2.1 c hc)
    subst hab
    have hvw : v = w := by simpa [storeRead] using h a
    subst hvw
    rw [store_ext h1.2.2.2 h2.2.2.2 fun x => ?_]
    by_cases hx : a = x
    · subst hx
      rw [storeRead_of_lt h1.2.2.1, storeRead_of_lt h2.2.2.1]
    · simpa [storeRead, hx] using h x

/-- The store right after reset has the canonical form. -/
theorem storeWf_reset : storeWf State.reset.pks.store = true := rfl

end Sys2Proof.Machine
end

