-- ==== Sys2Proof/Laws/Ticks.lean ====
section
/-! SUPPORT. What a millisecond reads and changes: the measurements and the debounce runs, and nothing else but the
clock. -/

namespace Sys2Proof.Machine

@[simp] theorem heldFor_false (n : Nat) : heldFor false n = 0 := rfl
@[simp] theorem heldFor_true (n : Nat) : heldFor true n = n + 1 := rfl

theorem heldFor_le (holds : Bool) (n : Nat) : heldFor holds n ≤ n + 1 := by
  cases holds <;> simp [heldFor]

/-! ### One ms of a bay -/

section
variable (x : BscBay) (current voltage : Nat)

@[simp] theorem BscBay.measure_supply : (x.measure current voltage).supply = x.supply := rfl
@[simp] theorem BscBay.measure_fixed : (x.measure current voltage).fixed = x.fixed := rfl
@[simp] theorem BscBay.measure_weight : (x.measure current voltage).weight = x.weight := rfl
@[simp] theorem BscBay.measure_phase : (x.measure current voltage).phase = x.phase := rfl
@[simp] theorem BscBay.measure_chargeCurrent : (x.measure current voltage).chargeCurrent = x.chargeCurrent := rfl
@[simp] theorem BscBay.measure_chargeNine : (x.measure current voltage).chargeNine = x.chargeNine := rfl
@[simp] theorem BscBay.measure_request : (x.measure current voltage).request = x.request := rfl
@[simp] theorem BscBay.measure_floor : (x.measure current voltage).floor = x.floor := rfl
@[simp] theorem BscBay.measure_demand : (x.measure current voltage).demand = x.demand := rfl
@[simp] theorem BscBay.measure_grant : (x.measure current voltage).grant = x.grant := rfl
@[simp] theorem BscBay.measure_computed : (x.measure current voltage).computed = x.computed := rfl
@[simp] theorem BscBay.measure_applied : (x.measure current voltage).applied = x.applied := rfl
@[simp] theorem BscBay.measure_rise : (x.measure current voltage).rise = x.rise := rfl
@[simp] theorem BscBay.measure_offSince : (x.measure current voltage).offSince = x.offSince := rfl

/-- A measurement writes the meter and nothing else. -/
theorem BscBay.measure_eq : ∃ m, x.measure current voltage = { x with meter := m } := ⟨_, rfl⟩

/-- R66: at most the last 1000 ms are held. -/
theorem BscBay.measure_powers_length : (x.measure current voltage).meter.powers.length ≤ 1000 := by
  unfold BscBay.measure
  dsimp only
  split <;> simp [Meter.cleared]

/-- R67: outside RUN no condition is found. -/
theorem BscBay.measure_idle (h : x.supply ≠ .run) (c : SupplyCondition) :
    (x.measure current voltage).meter.found c = false := by
  cases c <;> simp [BscBay.measure, h, Meter.cleared, Meter.found, faultTime]

end

section
variable (x : DlcBay) (closed : Bool)

@[simp] theorem DlcBay.readPresence_dock : (x.readPresence closed).dock = x.dock := rfl
@[simp] theorem DlcBay.readPresence_record : (x.readPresence closed).record = x.record := rfl
@[simp] theorem DlcBay.readPresence_lastTablet : (x.readPresence closed).lastTablet = x.lastTablet := rfl
@[simp] theorem DlcBay.readPresence_misses : (x.readPresence closed).misses = x.misses := rfl
@[simp] theorem DlcBay.readPresence_pollUntil : (x.readPresence closed).pollUntil = x.pollUntil := rfl
@[simp] theorem DlcBay.readPresence_identUntil : (x.readPresence closed).identUntil = x.identUntil := rfl
@[simp] theorem DlcBay.readPresence_transfer : (x.readPresence closed).transfer = x.transfer := rfl
@[simp] theorem DlcBay.readPresence_lastEnd : (x.readPresence closed).lastEnd = x.lastEnd := rfl

end

section
variable (x : LkcBay) (door bolt : Bool)

@[simp] theorem LkcBay.readSwitches_lock : (x.readSwitches door bolt).lock = x.lock := rfl
@[simp] theorem LkcBay.readSwitches_doorOpen : (x.readSwitches door bolt).doorOpen = x.doorOpen := rfl
@[simp] theorem LkcBay.readSwitches_boltRetracted : (x.readSwitches door bolt).boltRetracted = x.boltRetracted := rfl
@[simp] theorem LkcBay.readSwitches_extendUntil : (x.readSwitches door bolt).extendUntil = x.extendUntil := rfl
@[simp] theorem LkcBay.readSwitches_cooldownUntil : (x.readSwitches door bolt).cooldownUntil = x.cooldownUntil := rfl
@[simp] theorem LkcBay.readSwitches_jams : (x.readSwitches door bolt).jams = x.jams := rfl
@[simp] theorem LkcBay.readSwitches_lastRetract : (x.readSwitches door bolt).lastRetract = x.lastRetract := rfl
@[simp] theorem LkcBay.readSwitches_quarantine : (x.readSwitches door bolt).quarantine = x.quarantine := rfl
@[simp] theorem LkcBay.readSwitches_assignment : (x.readSwitches door bolt).assignment = x.assignment := rfl
@[simp] theorem LkcBay.readSwitches_release : (x.readSwitches door bolt).release = x.release := rfl

end

/-! ### The readings of a ms -/

section
variable (s : State) (b : BayId)

@[simp] theorem takeReadings_pending : (takeReadings s).pending = s.pending := rfl
@[simp] theorem takeReadings_now : (takeReadings s).now = s.now := rfl
@[simp] theorem takeReadings_free : (takeReadings s).free = s.free := rfl
@[simp] theorem takeReadings_settings : (takeReadings s).settings = s.settings := rfl
@[simp] theorem takeReadings_cbi : (takeReadings s).cbi = s.cbi := rfl
@[simp] theorem takeReadings_shu : (takeReadings s).shu = s.shu := rfl
@[simp] theorem takeReadings_pks : (takeReadings s).pks = s.pks := rfl
@[simp] theorem takeReadings_ntu : (takeReadings s).ntu = s.ntu := rfl
@[simp] theorem takeReadings_sul : (takeReadings s).sul = s.sul := rfl
@[simp] theorem takeReadings_bscBay : (takeReadings s).bscBay b =
    (s.bscBay b).measure (Config.outputCurrent b s.now) (Config.outputVoltage b s.now) := by
  simp [takeReadings, State.bscBay]
@[simp] theorem takeReadings_dlcBay : (takeReadings s).dlcBay b =
    (s.dlcBay b).readPresence (Config.presenceSwitch b s.now) := by
  simp [takeReadings, State.dlcBay]
@[simp] theorem takeReadings_pksBay : (takeReadings s).pksBay b = s.pksBay b := rfl
@[simp] theorem takeReadings_lkcBay : (takeReadings s).lkcBay b =
    (s.lkcBay b).readSwitches (Config.doorSwitch b s.now) (Config.boltSwitch b s.now) := by
  simp [takeReadings, State.lkcBay]

/-- Everything a millisecond can do. -/
theorem tick_cases : (s.runs = true ∧ tick s = takeReadings { s with now := s.now + 1 }) ∨
    (s.runs = false ∧ tick s = { s with now := s.now + 1 }) := by
  unfold tick
  cases s.runs <;> simp

@[simp] theorem tick_now : (tick s).now = s.now + 1 := by
  obtain ⟨_, h⟩ | ⟨_, h⟩ := tick_cases s <;> simp [h]
@[simp] theorem tick_pending : (tick s).pending = s.pending := by
  obtain ⟨_, h⟩ | ⟨_, h⟩ := tick_cases s <;> simp [h]
@[simp] theorem tick_free : (tick s).free = s.free := by
  obtain ⟨_, h⟩ | ⟨_, h⟩ := tick_cases s <;> simp [h]
@[simp] theorem tick_settings : (tick s).settings = s.settings := by
  obtain ⟨_, h⟩ | ⟨_, h⟩ := tick_cases s <;> simp [h]
@[simp] theorem tick_cbi : (tick s).cbi = s.cbi := by
  obtain ⟨_, h⟩ | ⟨_, h⟩ := tick_cases s <;> simp [h]
@[simp] theorem tick_shu : (tick s).shu = s.shu := by
  obtain ⟨_, h⟩ | ⟨_, h⟩ := tick_cases s <;> simp [h]
@[simp] theorem tick_pks : (tick s).pks = s.pks := by
  obtain ⟨_, h⟩ | ⟨_, h⟩ := tick_cases s <;> simp [h]
@[simp] theorem tick_ntu : (tick s).ntu = s.ntu := by
  obtain ⟨_, h⟩ | ⟨_, h⟩ := tick_cases s <;> simp [h]
@[simp] theorem tick_sul : (tick s).sul = s.sul := by
  obtain ⟨_, h⟩ | ⟨_, h⟩ := tick_cases s <;> simp [h]

end

end Sys2Proof.Machine
end

