-- ==== Sys2Proof/Tests/Slice0.lean ====
section
/-! SUPPORT. Small tests: the well-formedness checks refuse ill-formed commands, worked figures of the manual, and for
each statement with hypotheses a concrete state and operands that meet them. -/

namespace Sys2Proof.Machine

/-! ### Well-formedness: each check refuses an ill-formed command -/

theorem test_wf_answer_too_long : (Instr.eepromAddressAttempt (some (List.replicate 2049 0))).wf = false := by
  decide +kernel
theorem test_wf_claim_from_panel : (Instr.claimArrival 0 []).wf = false := by decide
theorem test_wf_frame_too_long : (Instr.limitArrival (List.replicate 41 0)).wf = false := by decide
theorem test_wf_assign_is_clear : (Instr.assign (1 :: List.replicate 12 0)).wf = false := by decide
theorem test_wf_fixed_is_table : (Instr.fixed [1, 0xFF, 0xFF]).wf = false := by decide
theorem test_wf_release_kind_is_good : (Instr.releaseBadKind [1, 2, 0]).wf = false := by decide
theorem test_wf_query_subject_is_good : (Instr.queryBadSubject [4, 0]).wf = false := by decide
theorem test_wf_kind_is_listed : (Instr.unknownCommand 0x19 []).wf = false := by decide
theorem test_wf_stale_panel : (Instr.peerEntryStale 0).wf = false := by decide
theorem test_wf_ident_length : (Instr.identReply .b1 (List.replicate 15 0)).wf = false := by decide
theorem test_wf_status_length : (Instr.statusReply .b1 [0, 0]).wf = false := by decide
theorem test_wf_mode_length : (Instr.modeReply .b1 []).wf = false := by decide
theorem test_wf_begin_length : (Instr.pkgBeginReply .b1 [0, 0]).wf = false := by decide
theorem test_wf_block_length : (Instr.pkgBlockReply .b1 [0]).wf = false := by decide
theorem test_wf_end_length : (Instr.pkgEndReply .b1 []).wf = false := by decide
theorem test_wf_accepts : (Instr.fixed [1, 0xFF, 0x00]).wf = true ∧ (Instr.unknownCommand 0x1A []).wf = true ∧
    (Instr.claimArrival 15 (List.replicate 40 0)).wf = true := by decide

/-! ### Figures of the manual, and published check values of its codes -/

/-- R187: the check values of the two codes over "123456789" that their parameters are known by. -/
theorem test_crc_check_values :
    crc16 [0x31, 0x32, 0x33, 0x34, 0x35, 0x36, 0x37, 0x38, 0x39] = 0x29B1 ∧
    crc8 [0x31, 0x32, 0x33, 0x34, 0x35, 0x36, 0x37, 0x38, 0x39] = 0xF4 := by decide +kernel
/-- Section 2.8.1: the division of 450 W among three stations. -/
theorem test_division_of_450 : stageOne 450 [⟨180, 20, 24⟩, ⟨150, 30, 40⟩, ⟨200, 10, 16⟩] = [20, 30, 10] ∧
    (passes 1 390 ([⟨180, 20, 24⟩, ⟨150, 30, 40⟩, ⟨200, 10, 16⟩].zip [20, 30, 10])).map Prod.snd = [137, 150, 88] := by
  decide
/-- R53: 2500 mA at level 1 is 1850 mA. -/
theorem test_derated_at_level_1 : derated .l1 2500 = 1850 ∧ derated .cut 2500 = 0 := by decide
/-- R46: 50 percent in the one partition of 64 entries is band 31. -/
theorem test_band_of_half : bandOf 64 .active (some ⟨[], 0, some 50, false, false, 0⟩) = 31 ∧
    bandOf 64 .asleep (some ⟨[], 0, some 50, false, false, 0⟩) = 0 := by decide
/-- R186: the characters of an asset tag. -/
theorem test_tag_characters : tagOk [0x4C, 0x41, 0x42, 0x2D, 0x30, 0x37, 0x2D, 0x30, 0x30, 0x32, 0x33, 0x31] = true ∧
    tagOk [0x6C, 0x41, 0x42, 0x2D, 0x30, 0x37, 0x2D, 0x30, 0x30, 0x32, 0x33, 0x31] = false := by decide
/-- R20: the clamps of a claim. -/
theorem test_claim_clamped : readClaim [1, 250, 255, 0, 255, 0x63, 0x00, 16, 1] =
    some { isolated := true, d := 212, f := 212, w := 1, a := 212, cSel := 100, nCfg := 15, trimmed := true } := by
  decide
/-- R20: a station state other than ISOLATED is stored as ACTIVE. -/
theorem test_claim_state : (readClaim [7, 0, 0, 1, 0, 0x58, 0x02, 4, 0]).map ClaimFigures.isolated = some false := by decide
/-- R71, Table 11-7: the bits of a dock line character, the least significant first. -/
theorem test_dock_character : dockCharBits 0x05 = [false, true, false, true, false, false, false, false, false, true] := by
  decide
/-- R67: 300 mA above the setpoint is no fault condition, 301 mA is one. -/
theorem test_over_setpoint :
    let x : BscBay := { BscBay.reset 4 with supply := .run, applied := ⟨500, false⟩ }
    (x.measure 800 5000).meter.overFor = 0 ∧ (x.measure 801 5000).meter.overFor = 1 ∧
      (x.measure 3000 4000).meter.surge = false ∧ (x.measure 3001 4000).meter.surge = true ∧
      (x.measure 500 4000).meter.underFor = 0 ∧ (x.measure 500 3999).meter.underFor = 1 := by decide
/-- R78: percent 255 is unknown, 101 to 254 is clamped. -/
theorem test_percent : percentOf 255 = none ∧ percentOf 254 = some 100 ∧ percentOf 101 = some 100 ∧
    percentOf 99 = some 99 := by decide
/-- R55, Table 3-6: the request of 2700 mA at 9 V is capped. -/
theorem test_request_capped : requestOf 2700 true = 24 ∧ requestOf 250 true = 3 := by decide

/-! ### States to start from -/

/-- R63: a grant of 15 W at 9 V gives 1650 mA; floors of 6 W and 2 W alone run at 1200 mA and 400 mA. -/
theorem test_setpoint_figures :
    let x : BscBay := { BscBay.reset 4 with supply := .run }
    setpointOf { x with grant := 15, chargeCurrent := 2000, chargeNine := true } = ⟨1650, true⟩ ∧
    setpointOf { x with grant := 6, floor := 6 } = ⟨1200, false⟩ ∧
    setpointOf { x with grant := 2, floor := 2 } = ⟨400, false⟩ := by decide +kernel
/-- An EMPTY bay whose presence switch is debounced. -/
def bayUp : DlcBay := { DlcBay.reset with presenceRun := some 0 }

/-- A station 2 in LISTEN right after the handover of the defaults, its bays LOCKED. -/
def listening : State :=
  { State.reset with
    cbi := { State.reset.cbi with station := .listen, ownId := 2, listenUntil := some 1000, isolationUntil := some 2000 }
    sul := { State.reset.sul with phase := .finished, straps := some ⟨2, 0, false⟩, check := some .notRead }
    dlc := { State.reset.dlc with bays := PerBay.const bayUp }
    lkc := { State.reset.lkc with bays := PerBay.const { LkcBay.reset with lock := some .locked } } }

/-- The same station with its bus state changed. -/
def inBus (x : StationState) : State :=
  { listening with cbi := { listening.cbi with station := x, listenUntil := none } }

/-- An ACTIVE station. -/
def acting : State := inBus .active

/-- The tag LAB-07-00231. -/
def tag1 : Tag := [0x4C, 0x41, 0x42, 0x2D, 0x30, 0x37, 0x2D, 0x30, 0x30, 0x32, 0x33, 0x31]

/-- A tablet at 50 percent. -/
def record1 : TabletRecord := ⟨tag1, 0, some 50, false, false, 0⟩

/-- A bay with an identified tablet. -/
def docked (b : BayId) (x : DockState) (s : State) : State :=
  (s.setDlcBay b { bayUp with dock := x, record := some record1, pollUntil := some 2000 }).setBscBay b
    { BscBay.reset 4 with supply := .run }

/-- A bay with a tablet not yet identified. -/
def seatedAt (b : BayId) (s : State) : State :=
  (s.setDlcBay b { bayUp with dock := .seated, identUntil := some 9000 }).setBscBay b
    { BscBay.reset 4 with supply := .run }

/-- A state with a lock state of bay 1. -/
def withLock (l : LockState) (s : State) : State :=
  s.setLkcBay .b1 { s.lkcBay .b1 with lock := some l }

/-- A frame of a kind. -/
def frameOf (k : TxKind) (age : Nat) : TxFrame := ⟨k, [], false, age⟩

/-- A state with frames in the transmit queue. -/
def withFrames (l : List TxFrame) (s : State) : State :=
  { s with cbi := { s.cbi with queue := l, nextAge := 20 } }

/-- A state with a frame on the line. -/
def withLine (f : TxFrame) (s : State) : State :=
  { s with cbi := { s.cbi with onLine := some f } }

/-- A LIVE peer. -/
def peer1 (id : StationId) : Peer := ⟨id, .live, false, 100, 10, 4, 20, 300, 15, false, 0, false, false, 0⟩

/-- A state with two peers. -/
def withPeers (s : State) : State := { s with shu := { s.shu with peers := [peer1 1, peer1 3] } }

/-- A release entry of bay 1. -/
def entry1 : ReleaseEntry := ⟨.b1, .checkout, 6000, 300, false, 0, false, false⟩

/-- A state with an entry of bay 1 in the release queue and a lock state of bay 1. -/
def withEntry (l : LockState) (s : State) : State :=
  withLock l { s with lkc := { s.lkc with queue := [entry1] } }

/-- A state with driver 1 assigned to bay 1. -/
def withDriver (p : DriverPhase) (s : State) : State :=
  withLock p.lock { s with lkc := { s.lkc with driver1 := .assigned entry1 p false } }

/-- A package of two blocks for bay 1. -/
def package1 (x : PackageState) : Package :=
  ⟨5, x, 2, 0, 0, PerBay.ofFn fun b => if b = .b1 then some ⟨.pending, 0⟩ else none, 0, 0⟩

/-- A state with the package in the table. -/
def withPackage (x : PackageState) (s : State) : State := { s with pks := { s.pks with table := [package1 x] } }

/-- A state in which engine 1 has an exchange with bay 1. -/
def withExchange (k : ItemKind) (r : Request) (second : Bool) (p : ExchangePhase) (s : State) : State :=
  { s with dlc := { s.dlc with engine1 := .busy ⟨.b1, k, 0⟩ ⟨r, second, p⟩ } }

/-- A state with a transfer in flight on bay 1. -/
def withTransfer (next : Nat) (resend : Bool) (s : State) : State :=
  s.setDlcBay .b1 { s.dlcBay .b1 with transfer := some ⟨5, 2, next, resend, false, false⟩ }

/-- A state with a transfer of the listed package in flight on bay 1: suspended, with its item waiting, or served. -/
def inDelivery (suspended : Bool) (s : State) : State :=
  let u := (withPackage .ready s).setPksBay .b1 ⟨[5], none⟩
  let v := u.setDlcBay .b1 { u.dlcBay .b1 with transfer := some ⟨5, 2, 0, false, suspended, false⟩ }
  if suspended then { v with dlc := { v.dlc with queue := [⟨.b1, .package, 0⟩] } }
  else withExchange .package (.pkgBlock 0 []) false .awaitingReply v

/-- A state with 15 items in the work queue. -/
def crowded (s : State) : State :=
  { s with dlc := { s.dlc with
      queue := BayId.all.map (⟨·, .ident, 0⟩) ++ (BayId.all.drop 1).map (⟨·, .modeCart, 0⟩) } }

/-- A state with every notice held back. -/
def muted (s : State) : State := { s with ntu := { s.ntu with mask := 7 } }

/-- A release entry of bay 1 that waits for nothing but power, in the queue under a lock state. -/
def withPlain (l : LockState) (fallen : Bool) (s : State) : State :=
  withLock l { s with lkc := { s.lkc with queue := [{ entry1 with kind := .service, limitFallen := fallen }] } }

/-- A bay 1 in COOLDOWN until 1000 ms. -/
def cooling (s : State) : State := s.setLkcBay .b1 { s.lkcBay .b1 with cooldownUntil := some 1000 }

/-- A bay 1 with its door open or its bolt retracted. -/
def switched (door bolt : Bool) (s : State) : State :=
  s.setLkcBay .b1 { s.lkcBay .b1 with doorOpen := door, boltRetracted := bolt }

/-- A bay 1 with a release record. -/
def recorded (k : ReleaseKind) (o : ReleaseOutcome) (s : State) : State :=
  s.setLkcBay .b1 { s.lkcBay .b1 with release := some ⟨k, o⟩ }

/-- A state with an applied limit. -/
def withLapp (lapp : Nat) (s : State) : State := { s with shu := { s.shu with share := lapp, lapp := lapp } }

/-! ### One step of a few commands, with what the manual says it leaves -/

/-- Whether a command leaves a next state of a kind. -/
def leaves (c : Instr) (s : State) (p : State → Bool) : Bool :=
  match exec c s with
  | .next t => p t
  | .fault _ => false
  | .refused _ => false

/-- R24: a LIMIT of 450 W sets the panel limit 450 W, and 99 W sets 100 W. -/
theorem test_limit : leaves (.limitArrival [0xC2, 0x01]) listening (fun t => t.shu.panelLimit = some 450) = true ∧
    leaves (.limitArrival [99, 0]) listening (fun t => t.shu.panelLimit = some 100) = true := by decide +kernel
/-- R51, Table 3-3: a reading at T_cut cuts; the hotter sensor counts. -/
theorem test_sample_cut : leaves (.sensorSample 20 60) acting (fun t => t.bsc.derate = .cut) = true := by
  decide +kernel
/-- R147: a door that opens on a LOCKED bay is forced: OPEN, and FORCED with detail 1 waits. -/
theorem test_door_forced : leaves (.doorOpened .b3) listening (fun t =>
    (t.lkcBay .b3).lock = some .opened ∧ t.ntu.entries.map (fun p => (p.kind, p.bay, p.detail)) = [(.forced, 3, 1)]) =
      true := by decide +kernel
/-- Table 8-3: a CHECKOUT from an EMPTY bay is refused EMPTY_BAY, code 4. -/
theorem test_checkout_empty : leaves (.releaseCheckout 1 0) listening (fun t =>
    t.cbi.queue.map TxFrame.payload = [[0x10, 1, 4]]) = true := by decide +kernel
/-- R75, R65: a tablet that seats makes its bay SEATED and its supply RUN. -/
theorem test_seated : leaves (.presenceGained .b4) acting (fun t =>
    (t.dlcBay .b4).dock = .seated ∧ (t.bscBay .b4).supply = .run) = true := by decide +kernel
/-- R173: the completion of a marked REPLY resets the part with cause 3. -/
theorem test_restart : leaves .frameTxComplete (withLine ⟨.reply, [0x17, 0, 1], true, 0⟩ acting) (fun t =>
    t.cbi.station = .starting ∧ t.sul.cause = .restart) = true := by decide +kernel
/-- R180: a shelf strapped with id 0 is HALTED. -/
theorem test_halted : leaves (.resetRelease 0 5 true) State.reset (fun t => t.cbi.station = .halted) = true := by
  decide +kernel
/-- R73: a first timeout leaves the engine waiting for a quiet line. -/
theorem test_timeout : leaves (.replyWindowTimeout .b1) (withExchange .status .status false .awaitingReply acting)
    (fun t => t.dlc.engine1 = .busy ⟨.b1, .status, 0⟩ ⟨.status, false, .quietWait⟩) = true := by decide +kernel

/-- R26: the manual's example: C_eff 600, N_cfg 4, own id 2, id 1 LIVE, id 3 STALE with A 90, id 6 STALE with A 40. -/
theorem test_reservation_example :
    reservation { acting with
      settings := { acting.settings with nCfg := 4 }
      shu := { acting.shu with peers := [peer1 1, { peer1 3 with state := .stale, a := 90 },
        { peer1 6 with state := .stale, a := 40 }] } } 150 = 340 := by decide
/-- R96, R186: the check value of a PACKAGE_OPEN, high-order byte first. -/
theorem test_check_value : leaves (.packageOpen [1, 32, 0, 1, 0x12, 0x34]) acting
    (fun t => t.pks.table.map Package.check = [0x1234]) = true := by decide +kernel
/-- R95: in a full table the id's own settled entry is replaced, else the settled entry of the lowest number is
evicted. -/
theorem test_open_in_full_table :
    let settled (id order : Nat) : Package := { package1 .complete with id := id, settle := order }
    let s := { acting with pks := { acting.pks with table := [settled 1 9, settled 2 4, settled 3 7] ++
      ([4, 5, 6, 7, 8].map fun id => { package1 .ready with id := id, base := 2 * id }) } }
    leaves (.packageOpen [3, 32, 0, 1, 0, 0]) s (fun t => t.pks.table.map Package.id = [1, 2, 4, 5, 6, 7, 8, 3]) = true ∧
    leaves (.packageOpen [9, 32, 0, 1, 0, 0]) s (fun t => t.pks.table.map Package.id = [1, 3, 4, 5, 6, 7, 8, 9]) = true := by
  decide +kernel
/-- R137: an entry whose limit fell while a driver held it is removed at the end of COOLDOWN where it waits for power.
-/
theorem test_limit_falls_on_driver :
    (entry1.afterJam 9999).limitFallen = false ∧ (entry1.afterJam 10000).limitFallen = true ∧
    leaves (.cooldownEnd .b1) (cooling (withPlain .cooldown true (recorded .service .waiting acting))) (fun t =>
      (t.lkcBay .b1).lock = some .locked ∧ t.lkc.queue = [] ∧
        (t.lkcBay .b1).release = some ⟨.service, .dropped⟩) = true := by decide +kernel
/-- R144: a pulse on a bay from LOCK_FAULT without retraction returns it to LOCK_FAULT, though its door is open. -/
theorem test_lock_fault_kept :
    let s := withDriver (.pulse 0 1000 false) (switched true false acting)
    leaves (.pulseEnd .b1) (s.setLkcBay .b1 { s.lkcBay .b1 with jams := 2 })
      (fun t => (t.lkcBay .b1).lock = some .lockFault ∧ (t.lkcBay .b1).jams = 2) = true := by decide +kernel
/-- R12: a line dominant for 200 bit-times, a mismatch, and 100 more: the line is stuck, and a recessive bit then is
within 1 ms of the mismatch; after 250 bit-times from the mismatch it is not. -/
theorem test_mismatch_on_stuck_line :
    let w := ((LineWatch.begin.dominantFor 200).mismatchBit false).1
    (w.dominantFor 100).stuck = true ∧ ((w.dominantFor 100).bit true).2 = [.mismatchClashConfirmed, .stuckLineEnd] ∧
    ((w.dominantFor 250).bit true).2 = [.stuckLineEnd] := by decide +kernel
/-- R12: a clash confirmed after the start of a stuck condition takes an ISOLATED station to CLASHED. -/
theorem test_clash_on_stuck_line :
    let s := { inBus .isolated with cbi := { (inBus .isolated).cbi with mismatch := true } }
    leaves .stuckLineStart s (fun t => leaves .mismatchClashConfirmed t (fun u => u.cbi.station = .clashed)) = true := by
  decide +kernel
/-- R5: a marked character inside a frame cuts it, and the new frame is read. -/
theorem test_cut_frame :
    let f : BusFrame := { kind := 0x17, dest := some 2, sender := 0, payload := [] }
    rxCommands 2 ((sentChars (f.bytes 1)).take 3 ++ sentChars (f.bytes 1)) =
      [.rxFrameDiscarded .truncated, .restart []] := by decide +kernel

/-! ### The hypotheses of the statements can be met -/

/-- The states below are of a running station in ACTIVE, with room for an answer. -/
theorem test_hyp_common : ∀ s ∈ [acting, docked .b1 .active acting, docked .b1 .asleep acting, seatedAt .b1 acting,
      withLock .lockFault acting, withEntry .queued acting, withDriver (.hold 6000) acting, withPackage .ready acting,
      withExchange .status .status true .awaitingReply acting, withTransfer 0 false acting, withPeers acting],
    s.runs = true ∧ s.cbi.station = .active ∧ 2 ≤ freeSlots s := by decide
theorem test_hyp_StepRunsFront : ({ acting with pending := [.headLost] } : State).pending = .headLost :: [] := rfl
theorem test_hyp_IdleStep_passes : acting.pending = [] ∧ dueCommands acting = [] := by decide
theorem test_hyp_IdleStep_due : ({ listening with now := 1000 } : State).pending = [] ∧
    dueCommands { listening with now := 1000 } ≠ [] := by decide
theorem test_hyp_IdleStep_halted : (inBus .halted).pending = [] ∧ (inBus .halted).runs = false := by decide
/-- The boundaries of the debounce and fault times: 49, 19, 1 and 199 ms bring nothing about, 50, 20, 2 and 200 ms do.
-/
theorem test_hyp_IdleStep_runs :
    let s (p d o : Nat) (f : Nat) : State :=
      ((acting.setDlcBay .b1 { bayUp with presenceRun := some p }).setLkcBay .b1 { LkcBay.reset with
        lock := some .locked, doorRun := d, boltRun := o }).setBscBay .b2 { BscBay.reset 4 with
          supply := .run, meter := { Meter.reset with overFor := f } }
    dueCommands (s 49 19 1 199) = [] ∧
      ∀ c ∈ [Instr.presenceGained .b1, .doorOpened .b1, .boltRetracted .b1, .supplyFault .b2 .overSetpoint],
        c ∈ dueCommands (s 50 20 2 200) := by decide

/-- A busy state that meets every invariant, with a command to run. -/
def lively : State :=
  { withPeers (withFrames [frameOf .claim 3, frameOf .reply 4] (docked .b1 .active acting)) with pending := [.headLost] }
theorem test_hyp_StepKeeps_runs : ∃ t, step lively = .next t := ⟨_, rfl⟩
theorem test_hyp_StepKeepsStart : StartOk lively := by unfold StartOk; decide
theorem test_hyp_StepKeepsTxQueue : TxQueueOk lively := by unfold TxQueueOk TxFrame.before; decide
theorem test_hyp_StepKeepsCeiling : CeilingOk lively := by unfold CeilingOk; decide
theorem test_hyp_StepKeepsPeers : PeersOk lively := by unfold PeersOk Peer.inBounds; decide
theorem test_hyp_StepKeepsGrants : GrantsOk lively := by unfold GrantsOk; decide
theorem test_hyp_StepKeepsBays : BaysOk lively := by unfold BaysOk BayOk; decide
theorem test_hyp_StepKeepsWorkQueue : WorkQueueOk lively ∧ WorkQueueOk (inDelivery false lively) := by
  unfold WorkQueueOk; decide
theorem test_hyp_StepKeepsStore : StoreOk lively := rfl
theorem test_hyp_StepKeepsPackages : PackagesOk (withPackage .loading lively) := by
  unfold PackagesOk Package.apart; decide
theorem test_hyp_StepKeepsLists : ListsOk (withPackage .loading lively) := by
  unfold ListsOk Package.pendingOn; decide
theorem test_hyp_StepKeepsReleases : ReleasesOk lively := by unfold ReleasesOk LockBayOk; decide
theorem test_hyp_StepKeepsNotices : NoticesOk lively := by unfold NoticesOk; decide
theorem test_hyp_StepKeepsRanges : SettingsOk lively ∧ CountsOk lively := by
  unfold SettingsOk Settings.inBounds ProfileEntry.inBounds CountsOk; decide

theorem test_hyp_ResetRows : State.reset.sul.phase = .held ∧ acting.sul.phase ≠ .held ∧ (15 : StationId) ≠ 0 := by decide
theorem test_hyp_EepromAddressings :
    ({ State.reset.sul with phase := .addressing 1 10 } : Sul).phase = .addressing 1 10 ∧
    ({ State.reset.sul with phase := .addressing 2 20 } : Sul).phase = .addressing 2 20 ∧
    State.reset.sul.phase ≠ .addressing 0 0 := by decide
theorem test_hyp_EepromAddressings_other : ∀ k n, State.reset.sul.phase ≠ .addressing k n := by
  intro k n h; cases h
theorem test_hyp_ImageJudged : (List.replicate 26 (0 : Byte)).length + 6 = 32 ∧
    (List.replicate 2042 (0 : Byte)).length + 6 = 2048 ∧
    ([1, 2] : List Byte) ≠ crc16Bytes ([0x5A, 0xC3] ++ wordOf 32 ++ List.replicate 26 0) ∧ (0x5B : Byte) ≠ 0x5A := by
  decide +kernel
theorem test_hyp_Handover :
    ({ State.reset with sul := { State.reset.sul with
        phase := .ready, straps := some ⟨2, 0, false⟩, check := some .good } } : State).sul.check = some .good ∧
      State.reset.lkc.queue = [] ∧ ImageCheck.absent ≠ .good := by decide
/-- A segment that is skipped, and one whose two items of three bytes leave one byte over. -/
theorem test_hyp_Handover_segment :
    let image (start stop : Byte) : List Byte := [0x5A, 0xC3, 40, 0, start, 0, stop, 0] ++ List.replicate 20 0 ++
      [1, 4, 0, 2, 0xF4, 1, 9] ++ List.replicate 5 0
    wordFrom (image 27 30) 4 < 28 ∧ wordFrom (image 35 35) 6 ≤ wordFrom (image 35 35) 4 ∧
    40 - 2 < wordFrom (image 28 39) 6 ∧ ([9] : List Byte).length ≤ 2 ∧
    ((image 28 35).drop 28).take (35 - 28) =
      (([(1, 4, 0), (2, 0xF4, 1)] : List (Byte × Byte × Byte)).flatMap fun i => [i.1, i.2.1, i.2.2]) ++ [9] := by decide
theorem test_hyp_Handover_items : 65535 < 65536 ∧ 0x00 < 0x01 ∧ 0x05 < 0x06 ∧ (0x20 : Nat) ≠ 0x3F ∧ 0x3F < 0x40 ∧
    (0x38 : Nat) ≠ 0x37 ∧ (0x50 : Nat) ≠ 0x51 := by decide
theorem test_hyp_LineRows : acting.runs = true ∧ acting.cbi.stuck = false ∧ acting.cbi.onLine = none ∧
    ({ acting.cbi with rxErrors := 255 } : Cbi).rxErrors ≤ 255 := by decide
theorem test_hyp_HeadWon : lively.runs = true ∧ frameOf .claim 3 ∈ lively.cbi.queue ∧
    ({ lively.cbi with contending := some 3 } : Cbi).contending = some (frameOf .claim 3).age ∧
    frameOf .reply 4 ∈ lively.cbi.queue ∧ frameOf .reply 4 ≠ frameOf .claim 3 := by decide
theorem test_hyp_OwnFrameEnds : ∀ k ∈ [TxKind.claim, .reply, .report, .notice],
    (withLine (frameOf k 0) acting).runs = true ∧
      (withLine (frameOf k 0) acting).cbi.onLine = some (frameOf k 0) := by decide
theorem test_hyp_OwnFrameEnds_restart :
    (withLine ⟨.reply, [0x17, 0, 1], true, 0⟩ acting).cbi.onLine = some ⟨.reply, [0x17, 0, 1], true, 0⟩ := by
  decide
theorem test_hyp_ClashRows : acting.runs = true ∧ acting.cbi.station ≠ .clashed ∧ (inBus .clashed).runs = true ∧
    (inBus .clashed).cbi.station = .clashed ∧ ({ acting.cbi with mismatch := true } : Cbi).mismatch = true := by decide
theorem test_hyp_onlyCharging : acting.onlyCharging := ⟨rfl, by decide⟩
theorem test_hyp_IsolationRows : acting.runs = true ∧ acting.cbi.station = .active ∧ 2 ≤ acting.settings.nCfg ∧
    acting.cbi.isolationUntil = some 2000 ∧ (3 : StationId) ≠ acting.cbi.ownId ∧ listening.cbi.station ≠ .active ∧
    (inBus .isolated).cbi.station = .isolated := by decide
theorem test_hyp_IsolationRows_steady : acting.steady ∧ listening.steady ∧ (inBus .clashed).steady :=
  ⟨.inr (.inl rfl), .inl rfl, .inr (.inr rfl)⟩
theorem test_hyp_ListenAndRefresh : listening.runs = true ∧ listening.cbi.listenUntil = some 1000 ∧
    listening.cbi.station = .listen ∧ ({ acting.shu with refresh := .running 500 } : Shu).refresh = .running 500 := by
  decide
/-- A LIMIT that lowers Lapp from 300 W to 100 W calls for a CLAIM against figures with A 300; a Lapp of 298 W does
not. -/
theorem test_hyp_ListenAndRefresh_news :
    let l : ClaimFigures := { claimFigures acting with a := 300 }
    let s := withLapp 300 { acting with shu := { acting.shu with lastPlaced := some l, d := 400 } }
    leaves (.limitArrival [100, 0]) s (fun t => decide (t.cbi.station = .active ∧ t.shu.lapp ≠ s.shu.lapp ∧
      t.shu.lapp + 4 ≤ l.a)) = true ∧
    ¬ ({ acting.shu with lapp := 298 } : Shu).news l ∧ (Ev.start s).claim = false := by
  unfold Shu.news; decide +kernel
theorem test_hyp_PeerRows : acting.runs = true ∧ (15 : StationId) ≠ acting.cbi.ownId ∧ (15 : StationId) ≠ 0 ∧
    peer1 1 ∈ (withPeers acting).shu.peers ∧ (peer1 1).state = .live ∧ peer1 3 ≠ peer1 1 ∧
    ([0, 0] : List Byte).length ≠ 9 := by decide
theorem test_hyp_PeerRows_ok : PeersOk (withPeers acting) := by unfold PeersOk Peer.inBounds; decide
/-- A heard load at C_eff and one above it, after a CLAIM of shelf 1 with A 20 or 250. -/
theorem test_hyp_PeerRows_load : (muted acting).cbi.station = .active ∧ 2 ≤ acting.settings.nCfg ∧
    leaves (.claimArrival 1 [0, 0, 0, 1, 20, 0x2C, 1, 15, 0]) (muted acting) (fun t =>
      decide (t.shu.lapp + ((t.shu.peers.filter fun p => p.state = .live).map Peer.a).sum + t.shu.rsv ≤ t.shu.cEff)) =
        true ∧
    leaves (.claimArrival 1 [0, 0, 0, 1, 250, 0x2C, 1, 15, 0]) (muted acting) (fun t =>
      decide (t.shu.cEff < t.shu.lapp + ((t.shu.peers.filter fun p => p.state = .live).map Peer.a).sum + t.shu.rsv)) =
        true := by decide +kernel
theorem test_hyp_masksAll : (muted acting).masksAll := by unfold State.masksAll; decide
/-- The boundaries of the panel limit: 0, 1, 99, 100, 2400 and 2401 W fall under one clause each. -/
theorem test_hyp_PanelLimit : acting.runs = true ∧ (Instr.headLost ≠ .limitArrival []) ∧
    [0, 1, 99, 100, 2400, 2401].map panelLimitOf =
      [none, some 100, some 100, some 100, some 2400, some 2400] := by decide
theorem test_hyp_RaiseHoldOver : acting.runs = true ∧
    ({ acting.shu with raise := some ⟨20, .holdUntil 200⟩ } : Shu).raise = some ⟨20, .holdUntil 200⟩ ∧
    acting.shu.lapp < 20 ∧ acting.lkc.queue = [] ∧ ∀ b ∈ BayId.all, (acting.pksBay b).list = [] := by decide
/-- A LIMIT cleared: the share of an EMPTY shelf is 0, below, at or above Lapp. -/
theorem test_hyp_RaiseHoldOver_limit :
    leaves (.limitArrival [0, 0]) (withLapp 5 acting) (fun t => decide (t.shu.share < 5)) = true ∧
    leaves (.limitArrival [0, 0]) acting (fun t => decide (t.shu.share = acting.shu.lapp)) = true ∧
    leaves (.limitArrival [0, 0]) { acting with shu := { acting.shu with d := 18 } } (fun t =>
      decide (acting.shu.lapp < t.shu.share)) = true ∧
    (inBus .clashed).cbi.station = .clashed := by decide +kernel

theorem test_hyp_hasRoom : acting.hasRoom ∧ freeSlots (withFrames (List.replicate 6 (frameOf .reply 0)) acting) = 2 :=
  ⟨by unfold State.hasRoom; decide, by decide⟩
theorem test_hyp_ReleaseAdmitted_checkout :
    let s := docked .b1 .active acting
    s.runs = true ∧ (1 : Byte).toNat = BayId.b1.num ∧ s.lkc.hasEntry .b1 = false ∧ s.lkc.queue.length < 8 ∧
      (s.lkcBay .b1).lock = some .locked ∧ (s.dlcBay .b1).dock = .active ∧ (s.lkcBay .b1).quarantine = false ∧
      (s.lkcBay .b1).assignment = none ∧ s.settings.checkoutMin ≤ countedPercent (s.dlcBay .b1) := by decide
theorem test_hyp_ReleaseAdmitted_return : acting.lkc.hasEntry .b1 = false ∧ (acting.lkcBay .b1).lock = some .locked ∧
    (acting.dlcBay .b1).dock = .empty := by decide
theorem test_hyp_ReleaseAdmitted_service : ((withLock .lockFault acting).lkcBay .b1).lock = some .lockFault ∧
    (withLock .lockFault acting).lkc.hasEntry .b1 = false := by decide
theorem test_hyp_ReleaseRefused_bay : bayOf 0 = none ∧ bayOf 9 = none ∧ bayOf 8 = some .b8 := by decide
theorem test_hyp_ReleaseRefused_busy : (withEntry .queued acting).lkc.hasEntry .b1 = true ∧
    ((withLock .opened acting).lkcBay .b1).lock = some .opened ∧
    ((withLock .hold acting).lkcBay .b1).lock ≠ some .lockFault ∧
    8 ≤ ({ acting.lkc with queue := List.replicate 8 entry1 } : Lkc).queue.length := by decide
theorem test_hyp_ReleaseRefused_tests :
    ((docked .b1 .active acting).dlcBay .b1).dock ≠ .empty ∧ ((seatedAt .b1 acting).dlcBay .b1).dock = .seated ∧
    ((docked .b1 .asleep acting).dlcBay .b1).dock = .asleep ∧
    countedPercent ((docked .b1 .asleep acting).dlcBay .b1) < acting.settings.checkoutMin := by decide
theorem test_hyp_ReleaseRefused_tag :
    ∃ tag ∈ (some (List.replicate 12 0x41) : Option Tag), ∀ r ∈ some record1, r.tag ≠ tag := by decide
theorem test_hyp_SettingCommands : tagOk tag1 = true ∧ (∀ r ∈ (acting.dlcBay .b8).record, r.tag = tag1) ∧
    (8 : Byte).toNat = BayId.b8.num ∧ (0xFE : Byte).toNat + 256 * (0xFF : Byte).toNat ≠ 65535 ∧
    ((seatedAt .b8 acting).dlcBay .b8).dock ≠ .empty ∧ (7 : Byte).toNat ≤ 7 := by decide
theorem test_hyp_QueryRows : 4 ≤ freeSlots acting ∧ (5 : Byte) ≠ 0 ∧
    findPackage (withPackage .ready acting).pks.table (5 : Byte).toNat = some (package1 .ready) ∧
    1 ≤ (withPeers acting).shu.peers.length ∧ (withPeers acting).shu.peers.length ≤ 3 ∧
    ((withPeers acting).shu.peers.length + 2) / 3 < freeSlots (withPeers acting) := by decide
theorem test_hyp_OtherAnswers : findPackage acting.pks.table (5 : Byte).toNat = none ∧ 7 < (8 : Byte).toNat ∧
    (2 : Byte) ≠ 0 ∧ (2 : Byte) ≠ 1 ∧ (5 : Byte) ≠ 1 ∧ (5 : Byte) ≠ 4 ∧ (0 : Byte) ≠ 1 ∧
    tagOk (0x41 :: List.replicate 11 0) = false ∧ (0x41 :: List.replicate 11 0 : Tag) ≠ noTag ∧
    (acting.dlcBay .b1).dock = .empty := by decide
theorem test_hyp_NoRoomNoEffect : freeSlots (withFrames (List.replicate 7 (frameOf .reply 0)) acting) < 2 := by decide
/-- Two and three free slots are too few for a BAY, and two for seven peers in three frames. -/
theorem test_hyp_NoRoomNoEffect_frames :
    freeSlots (withFrames (List.replicate 6 (frameOf .reply 0)) acting) = 2 ∧
    freeSlots (withFrames (List.replicate 5 (frameOf .reply 0)) acting) < 4 ∧
    freeSlots (withFrames (List.replicate 6 (frameOf .reply 0)) acting) <
      max 1 (((([1, 3, 4, 5, 6, 7, 8] : List StationId).map peer1).length + 2) / 3) + 1 ∧
    freeSlots (withFrames (List.replicate 7 (frameOf .reply 0)) acting) < max 1 ((acting.shu.peers.length + 2) / 3) + 1 :=
  by decide
/-- A report with a driver in each phase, with an entry, and with the output off lately. -/
theorem test_hyp_QueryRows_bay :
    driverAt? (withDriver (.pulse 50 350 true) acting) .b1 = some (.d1, entry1, .pulse 50 350 true, false) ∧
    driverAt? (withDriver (.hold 6000) acting) .b1 = some (.d1, entry1, .hold 6000, false) ∧
    driverAt? acting .b1 = none ∧ acting.lkc.entry? .b1 = none ∧ (withEntry .queued acting).lkc.entry? .b1 = some entry1 ∧
    (∃ t ∈ ({ BscBay.reset 4 with offSince := some 0 } : BscBay).offSince, 999 < t + 1000) ∧
    ¬ ∃ t ∈ ({ BscBay.reset 4 with offSince := some 0 } : BscBay).offSince, 1000 < t + 1000 := by decide
theorem test_hyp_PackageOpened : (32 : Byte).toNat + 256 * (0 : Byte).toNat = 32 ∧
    (0 : Byte).toNat + 256 * (4 : Byte).toNat = 1024 ∧ findPackage acting.pks.table 5 = none ∧
    acting.pks.table.length < 8 ∧
    findPackage (withPackage .ready acting).pks.table 5 = some (package1 .ready) ∧
    (package1 .ready).state.holdsBlocks = true := by decide
theorem test_hyp_PackageOpened_noEntry :
    8 ≤ (List.replicate 8 (package1 .ready)).length ∧
      findPackage (List.replicate 8 (package1 .ready)) 6 = none ∧
      ∀ p ∈ List.replicate 8 (package1 .ready), p.state.holdsBlocks = true := by decide
/-- A settled entry of the id itself, and in a full table one settled entry with the lowest settle order number. -/
theorem test_hyp_PackageOpened_settled :
    let p : Package := { package1 .complete with settle := 4 }
    let t := [p, { p with id := 6, settle := 7 }] ++ List.replicate 6 { package1 .ready with id := 7 }
    findPackage t 5 = some p ∧ p.state.holdsBlocks = false ∧ p ∈ t ∧ findPackage t 8 = none ∧ 8 ≤ t.length ∧
      ∀ q ∈ t, q.state.holdsBlocks = false → q ≠ p → p.settle < q.settle := by decide
/-- No run of two blocks is free in a store that a run of 127 blocks fills but for its last one. -/
theorem test_hyp_PackageOpened_noRoom : ∀ base, ¬(base + 2 ≤ 128 ∧
    ∀ p ∈ [({ package1 .ready with length := 127 } : Package)], p.state.holdsBlocks = true →
      p.base + p.length ≤ base ∨ base + 2 ≤ p.base) := by
  rintro base ⟨h1, h2⟩
  have := h2 _ (List.mem_singleton.mpr rfl) rfl
  simp only [package1] at this
  omega
theorem test_hyp_PackageDataRows : (List.replicate 32 (0 : Byte)).length = 32 ∧
    findPackage (withPackage .loading acting).pks.table (5 : Byte).toNat = some (package1 .loading) ∧
    (0 : Byte).toNat = (package1 .loading).nextOffset ∧ (package1 .loading).nextOffset < (1 : Byte).toNat ∧
    (package1 .ready).state ≠ .loading ∧ (1 : Byte).toNat + 1 = (package1 .loading).length ∧
    ([] : List Byte).length ≠ 34 := by decide
theorem test_hyp_PackageDataRows_store : StoreOk (withPackage .loading acting) := rfl
theorem test_hyp_PackageWithdrawn : PackagesOk (withPackage .ready acting) ∧
    findPackage (withPackage .withdrawing acting).pks.table (5 : Byte).toNat = some (package1 .withdrawing) ∧
    inFlight (withPackage .ready acting) 5 = false ∧
    inFlight (withTransfer 0 false (withPackage .ready acting)) 5 = true :=
  ⟨by unfold PackagesOk Package.apart; decide, by decide⟩
theorem test_hyp_SupplyRows :
    let x : BscBay := { BscBay.reset 4 with
      supply := .run, applied := ⟨500, false⟩, rise := some ⟨⟨1000, true⟩, 50⟩ }
    (acting.setBscBay .b1 x).runs = true ∧
      ((acting.setBscBay .b1 x).bscBay .b1).rise = some ⟨⟨1000, true⟩, 50⟩ ∧
      ((acting.setBscBay .b1 x).bscBay .b1).supply = .run ∧
      0 < ((acting.setBscBay .b1 x).bscBay .b1).applied.current ∧ (acting.bscBay .b1).rise = none ∧
      (acting.bscBay .b1).supply ≠ .run := by decide
/-- A setpoint at the applied power is applied, one above it is pending. -/
theorem test_hyp_SupplyRows_setpoint :
    let x : BscBay := { BscBay.reset 4 with supply := .run, grant := 18, chargeCurrent := 2000, chargeNine := true }
    (setpointOf (BscBay.reset 4)).power ≤ (BscBay.reset 4).applied.power ∧ x.applied.power < (setpointOf x).power ∧
      (setpointOf x).power = 18000 ∧ ((acting.bscBay .b1).supply = .idle) := by decide
theorem test_hyp_SupplyRows_figures : FiguresOk acting := by unfold FiguresOk; decide
/-- The boundaries of a good reading: −20 and 120 are good, −21 and 121 are not. -/
theorem test_hyp_SensorRows : acting.runs = true ∧ acting.bsc.sensor1.faulty = false ∧
    [-21, -20, 120, 121].map goodReading = [false, true, true, false] ∧
    ({ last := none, faulty := true } : Sensor).faulty = true := by decide
theorem test_hyp_PresenceRows : acting.runs = true ∧ (acting.dlcBay .b1).dock = .empty ∧
    ((docked .b1 .active acting).dlcBay .b1).dock ≠ .empty ∧
    ({ acting.lkcBay .b1 with release := some ⟨.checkout, .opened⟩ } : LkcBay).release = some ⟨.checkout, .opened⟩ ∧
    acting.lkc.hasEntry .b1 = false := by decide
/-- A CHECKOUT entry that waits under QUEUED, under COOLDOWN and under UNSECURED. -/
theorem test_hyp_PresenceRows_entry :
    ReleasesOk (withEntry .queued (docked .b1 .active acting)) ∧ ReleasesOk (cooling (withEntry .cooldown acting)) ∧
    ReleasesOk (withEntry .unsecured acting) ∧
    (withEntry .queued (docked .b1 .active acting)).lkc.entry? .b1 = some entry1 ∧ entry1.kind = .checkout :=
  ⟨by unfold ReleasesOk LockBayOk; decide, by unfold ReleasesOk LockBayOk; decide,
    by unfold ReleasesOk LockBayOk; decide, by decide⟩
theorem test_hyp_BayTimers : ((docked .b1 .active acting).dlcBay .b1).pollUntil = some 2000 ∧
    ((docked .b1 .asleep acting).dlcBay .b1).dock = .asleep ∧
    ((seatedAt .b1 acting).dlcBay .b1).identUntil = some 9000 ∧ acting.lkc.queue = [] ∧
    acting.dlc.queue.length < 16 ∧ acting.dlc.deferred = [] ∧
    ({ acting.pksBay .b1 with retryUntil := some 5000 } : PksBay).retryUntil = some 5000 := by decide
/-- The invariants under which STATUS stands, on a bay in ACTIVE, with no item and with 15 items waiting. -/
theorem test_hyp_BayTimers_stands :
    let l := [docked .b1 .active acting, crowded (docked .b1 .active acting)]
    (∀ s ∈ l, WorkQueueOk s) ∧ (∀ s ∈ l, ListsOk s) ∧ (∀ s ∈ l, s.dlc.queue.length < 16) ∧
      (crowded acting).dlc.queue.length = 15 :=
  ⟨by unfold WorkQueueOk; decide, by unfold ListsOk Package.pendingOn; decide, by decide⟩
theorem test_hyp_ExchangeRetry :
    exchangeAt? (withExchange .status .status false .awaitingReply acting) .b1 .awaitingReply =
      some (.e1, ⟨.b1, .status, 0⟩, ⟨.status, false, .awaitingReply⟩) ∧
    exchangeAt? (withExchange .status .status false .quietWait acting) .b1 .quietWait =
      some (.e1, ⟨.b1, .status, 0⟩, ⟨.status, false, .quietWait⟩) ∧
    exchangeAt? acting .b1 .awaitingReply = none ∧ exchangeAt? acting .b1 .quietWait = none := by decide
theorem test_hyp_NoAnswerRows : ∀ k ∈ [(ItemKind.status, Request.status), (.ident, .ident), (.modeFree, .mode true),
      (.package, .pkgBegin 5 2 0)],
    exchangeAt? (withExchange k.1 k.2 true .awaitingReply acting) .b1 .awaitingReply =
      some (.e1, ⟨.b1, k.1, 0⟩, ⟨k.2, true, .awaitingReply⟩) := by decide
theorem test_hyp_NoAnswerRows_transfer :
    ((withTransfer 0 false acting).dlcBay .b1).transfer = some ⟨5, 2, 0, false, false, false⟩ := by decide
theorem test_hyp_TabletReplies : tagOk tag1 = true ∧ (7 : Byte).toNat ≤ 7 ∧
    ((seatedAt .b1 acting).dlcBay .b1).dock = .seated ∧
    ((docked .b1 .asleep acting).dlcBay .b1).record = some record1 ∧
    exchangeAt? (withExchange .modeFree (.mode true) false .awaitingReply (docked .b1 .active acting)) .b1 .awaitingReply =
      some (.e1, ⟨.b1, .modeFree, 0⟩, ⟨.mode true, false, .awaitingReply⟩) := by decide
theorem test_hyp_PackageReplies :
    let s := withTransfer 1 true (docked .b1 .active acting)
    (s.dlcBay .b1).dock = .active ∧ (s.lkcBay .b1).lock = some .locked ∧ (∀ p ∈ s.pks.table, p.state ≠ .withdrawing) ∧
      (∀ y ∈ s.dlc.queue, y.kind.cls = 2) ∧
      (s.dlcBay .b1).transfer = some ⟨5, 2, 1, true, false, false⟩ ∧
      exchangeAt? (withExchange .package (.pkgBlock 1 []) false .awaitingReply s) .b1 .awaitingReply =
        some (.e1, ⟨.b1, .package, 0⟩, ⟨.pkgBlock 1 [], false, .awaitingReply⟩) := by decide
/-- At a boundary: a WITHDRAWING package, a bay that is not at rest, a takeover mark, and an item that the idle other
engine serves or does not. -/
theorem test_hyp_PackageReplies_boundary :
    let s := withTransfer 1 false (docked .b1 .active (withPackage .withdrawing acting))
    let y : WorkItem := ⟨.b1, .status, 3⟩
    (∃ p, findPackage s.pks.table 5 = some p ∧ p.state = .withdrawing) ∧
    ((withLock .opened s).lkcBay .b1).lock ≠ some .locked ∧ ((withLock .opened s).lkcBay .b1).lock ≠ some .queued ∧
    ({ id := 5, length := 2, next := 1, resend := false, suspended := false, takeover := true } : Transfer).takeover = true ∧
    ({ s.dlc with queue := [y] } : Dlc).queue = [] ++ y :: [] ∧ y.kind = .status ∧
    (s.dlc.engine .e2).bay? ≠ some y.bay ∧ y.bay = .b1 ∧ (∀ e ∈ s.lkc.queue, e.bay = .b1 → e.limitFallen = false) :=
  ⟨⟨package1 .withdrawing, by decide⟩, by decide⟩
/-- HAD_IT where the package is the only one listed, and where another is listed after it. -/
theorem test_hyp_PackageReplies_continue :
    let q : Package := { package1 .ready with id := 6, base := 2 }
    let s := docked .b1 .active acting
    let t : State := (({ s with pks := { s.pks with table := [package1 .ready, q] } } : State).setPksBay .b1
      ⟨[5, 6], none⟩).setBscBay .b1 { s.bscBay .b1 with grant := 6 }
    findPackage t.pks.table 5 = some (package1 .ready) ∧ (package1 .ready).state = .ready ∧
    (package1 .ready).targets.get .b1 = some ⟨.pending, 0⟩ ∧ (t.dlcBay .b1).dock = .active ∧
    (t.pksBay .b1).list = 5 :: 6 :: [] ∧ findPackage t.pks.table 6 = some q ∧
    (t.lkcBay .b1).lock = some .locked ∧ t.lkc.hasEntry .b1 = false ∧ (t.pksBay .b1).retryUntil = none ∧
    6 ≤ (t.bscBay .b1).grant ∧ t.dlc.queue = [] ∧ ([] : List Nat).contains 5 = false := by decide
/-- A suspended transfer whose item an engine takes again, and a transfer that starts. -/
theorem test_hyp_PackageReplies_resume :
    let s := docked .b1 .active (withPackage .ready acting)
    let r : Transfer := ⟨5, 2, 1, false, true, false⟩
    let ev := Ev.start (s.setDlcBay .b1 { s.dlcBay .b1 with transfer := some r })
    let u : State := (s.setPksBay .b1 ⟨[5], none⟩).setBscBay .b1 { s.bscBay .b1 with grant := 6 }
    (ev.s.dlcBay .b1).transfer = some r ∧ ev.s.dlc.engine .e1 = .idle ∧ ev.s.dlc.deferred = [] ∧ ev.s.dlc.queue = [] ∧
    (∀ p ∈ ev.s.pks.table, p.state ≠ .withdrawing) ∧ r.takeover = false ∧ (ev.s.lkcBay .b1).lock = some .locked ∧
    (u.dlcBay .b1).transfer = none ∧
    leaves (.retryDelayExpiry .b1) (u.setPksBay .b1 ⟨[5], some 5⟩) (fun t =>
      (t.dlcBay .b1).transfer = some ⟨5, 2, 0, false, false, false⟩) = true := by decide +kernel
theorem test_hyp_DoorRows : ReleasesOk acting ∧ acting.runs = true ∧ (acting.lkcBay .b1).doorOpen = false ∧
    (acting.lkcBay .b1).lock = some .locked :=
  ⟨by unfold ReleasesOk LockBayOk; decide, by decide⟩
/-- A door that is open under a bay in OPEN, and one under a driver in HOLD. -/
theorem test_hyp_DoorRows_open :
    ReleasesOk (acting.setLkcBay .b1 { LkcBay.reset with lock := some .opened, doorOpen := true }) ∧
    ReleasesOk (withDriver (.hold 6000) acting) := by
  unfold ReleasesOk LockBayOk; decide
/-- Every lock state under which a door may open, with and without an entry, and the records a close is judged on. -/
theorem test_hyp_DoorRows_states :
    (∀ s ∈ [withEntry .queued acting, cooling (withEntry .cooldown acting), withEntry .lockFault acting,
      withEntry .unsecured acting, withLock .unsecured acting, withLock .lockFault acting, withDriver (.prepare 50) acting,
      withDriver (.pulse 50 350 false) acting, withLock .opened (switched true true acting)], ReleasesOk s) ∧
    driverAt? (withDriver (.pulse 50 350 false) acting) .b1 = some (.d1, entry1, .pulse 50 350 false, false) ∧
    ∀ k ∈ [ReleaseKind.checkout, .returning, .service],
      ((recorded k .opened acting).lkcBay .b1).release = some ⟨k, .opened⟩ :=
  ⟨by unfold ReleasesOk LockBayOk; decide, by decide⟩
/-- A record present under a waiting CHECKOUT, one on a driver, and a close of an OPENED record. -/
theorem test_hyp_DoorRows_restored :
    let u := docked .b1 .active acting
    (∀ s ∈ [withEntry .queued u, cooling (withEntry .cooldown u), withDriver (.prepare 50) u,
      withLock .opened (switched true true (recorded .checkout .opened u))], ReleasesOk s) ∧
    (∀ s ∈ [withEntry .queued u, cooling (withEntry .cooldown u), withEntry .lockFault u], (s.dlcBay .b1).record.isSome = true ∧
      s.lkc.entry? .b1 = some entry1 ∧ (s.lkcBay .b1).boltRetracted = false ∧ (s.lkcBay .b1).doorOpen = false) ∧
    entry1.kind = .checkout ∧ ((withDriver (.prepare 50) u).dlcBay .b1).record.isSome = true ∧
    driverAt? (withDriver (.prepare 50) u) .b1 = some (.d1, entry1, .prepare 50, false) :=
  ⟨by unfold ReleasesOk LockBayOk; decide, by decide⟩
theorem test_hyp_BoltRows : ReleasesOk (withDriver (.pulse 50 350 false) acting) ∧
    driverAt? (withDriver (.pulse 50 350 false) acting) .b1 = some (.d1, entry1, .pulse 50 350 false, false) :=
  ⟨by unfold ReleasesOk LockBayOk; decide, by decide⟩
theorem test_hyp_BoltRows_rest :
    ReleasesOk (acting.setLkcBay .b1 { LkcBay.reset with
      lock := some .opened, boltRetracted := true, extendUntil := some 500 }) ∧
    ReleasesOk (acting.setLkcBay .b1 { LkcBay.reset with lock := some .unsecured, boltRetracted := true }) := by
  unfold ReleasesOk LockBayOk; decide
theorem test_hyp_BoltRows_queued : ReleasesOk (withEntry .queued acting) ∧
    ((withEntry .queued acting).lkcBay .b1).lock = some .queued ∧
    ((withEntry .queued acting).lkcBay .b1).extendUntil = none :=
  ⟨by unfold ReleasesOk LockBayOk; decide, by decide⟩
theorem test_hyp_DriverRows : ReleasesOk (withDriver (.prepare 50) acting) ∧
    driverAt? (withDriver (.prepare 50) acting) .b1 = some (.d1, entry1, .prepare 50, false) ∧
    driverAt? (withDriver (.hold 6000) acting) .b1 = some (.d1, entry1, .hold 6000, false) ∧
    ((withDriver (.pulse 50 350 true) acting).lkcBay .b1).jams = 0 :=
  ⟨by unfold ReleasesOk LockBayOk; decide, by decide⟩
/-- The ends of a pulse: with the door open and retraction seen, a first jam, a further jam, and a jam with the door
open at a jam count of 2; the limit of the entry falls at 10 s. -/
theorem test_hyp_DriverRows_pulse :
    let s (door seen : Bool) (jams : Nat) : State :=
      let x := withDriver (.pulse 50 350 seen) (switched door false acting)
      x.setLkcBay .b1 { x.lkcBay .b1 with jams := jams }
    (∀ t ∈ [s true true 0, s true false 1, s false true 2, s false false 0, s false false 1, s true false 2],
      ReleasesOk t) ∧
    driverAt? (s true false 2) .b1 = some (.d1, entry1, .pulse 50 350 false, false) ∧
    ((s true false 2).lkcBay .b1).jams = 2 ∧ entry1.made + 10000 ≤ 10000 :=
  ⟨by unfold ReleasesOk LockBayOk; decide, by decide⟩
/-- A further jam and the end of a hold window under a CHECKOUT with a record present, the door opened in its pulse or
not. -/
theorem test_hyp_DriverRows_restored :
    let u := docked .b1 .active acting
    let held := withLock .hold { u with lkc := { u.lkc with driver1 := .assigned entry1 (.hold 6000) true } }
    let s := withDriver (.pulse 50 350 false) u
    (∀ t ∈ [held, s.setLkcBay .b1 { s.lkcBay .b1 with jams := 1 }], ReleasesOk t ∧ (t.dlcBay .b1).record.isSome = true) ∧
    driverAt? held .b1 = some (.d1, entry1, .hold 6000, true) ∧ entry1.kind = .checkout :=
  ⟨by unfold ReleasesOk LockBayOk; decide, by decide⟩
/-- A bay in COOLDOWN with its entry queued, and an entry whose wait limit has not fallen. -/
theorem test_hyp_CooldownAndLimit :
    let t := cooling (withEntry .cooldown acting)
    ReleasesOk t ∧ WorkQueueOk t ∧ ListsOk t ∧ (t.lkcBay .b1).cooldownUntil = some 1000 ∧
      t.lkc.entry? .b1 = some entry1 ∧ entry1.limitFallen = false :=
  ⟨by unfold ReleasesOk LockBayOk; decide, by unfold WorkQueueOk; decide, by unfold ListsOk Package.pendingOn; decide,
    by decide⟩
/-- The clauses of the end of COOLDOWN: the entry first and ready with 10 W, without power before and after its limit;
and those of the wait limit: without power, with a transfer that is or is not suspended, in WAIT_MODE, with both
drivers in use. -/
theorem test_hyp_CooldownAndLimit_clauses :
    let l := [cooling (withPlain .cooldown false (withLapp 10 acting)), cooling (withPlain .cooldown true acting),
      cooling (withPlain .cooldown false acting), withPlain .queued false acting, withPlain .unsecured false acting,
      withEntry .queued (inDelivery false acting), withEntry .queued (inDelivery true acting)]
    (∀ s ∈ l, ReleasesOk s) ∧ (∀ s ∈ l, WorkQueueOk s) ∧ (∀ s ∈ l, ListsOk s) ∧
    (withLapp 10 acting).lkc.power + 10 ≤ (withLapp 10 acting).shu.lapp ∧ acting.shu.lapp < acting.lkc.power + 10 ∧
    (withPlain .queued false acting).lkc.entry? .b1 = some { entry1 with kind := .service } ∧ entry1.modeWait = false ∧
    ((inDelivery false acting).dlcBay .b1).transfer = some ⟨5, 2, 0, false, false, false⟩ ∧
    ((inDelivery true acting).dlcBay .b1).transfer = some ⟨5, 2, 0, false, true, false⟩ ∧
    ({ entry1 with modeWait := true } : ReleaseEntry).modeWait = true ∧
    ((docked .b1 .active acting).dlcBay .b1).record.isSome = true ∧
    (Driver.assigned { entry1 with bay := .b2 } (.hold 9) false ≠ .free) :=
  ⟨by unfold ReleasesOk LockBayOk; decide, by unfold WorkQueueOk; decide, by unfold ListsOk Package.pendingOn; decide,
    by decide⟩
/-- A CHECKOUT without power and with a record present, at the end of COOLDOWN past its limit and at its wait limit.
-/
theorem test_hyp_CooldownAndLimit_restored :
    let u := docked .b1 .active acting
    let s := cooling (withLock .cooldown { u with lkc := { u.lkc with queue := [{ entry1 with limitFallen := true }] } })
    let l := [s, withEntry .queued u]
    (∀ t ∈ l, ReleasesOk t) ∧ (∀ t ∈ l, WorkQueueOk t) ∧ (∀ t ∈ l, ListsOk t) ∧
    (∀ t ∈ l, (t.dlcBay .b1).record.isSome = true ∧ (t.dlcBay .b1).transfer = none ∧
      t.shu.lapp < t.lkc.power + 10) ∧
    s.lkc.entry? .b1 = some { entry1 with limitFallen := true } ∧ (withEntry .queued u).lkc.entry? .b1 = some entry1 ∧
    entry1.modeWait = false :=
  ⟨by unfold ReleasesOk LockBayOk; decide, by unfold WorkQueueOk; decide, by unfold ListsOk Package.pendingOn; decide,
    by decide⟩
theorem test_hyp_OtherBaysKept : Instr.concerns (.doorOpened .b2) .b1 = false ∧
    Instr.concerns (.quarantine [2, 1]) .b1 = false := by decide
theorem test_hyp_OtherBaysKept_next : ∃ t, exec .headLost acting = .next t := ⟨_, rfl⟩
theorem test_hyp_WholeMachineFrame : ∃ t, exec .stuckLineEnd acting = .next t := ⟨_, rfl⟩
theorem test_hyp_FrameRoundTrip : (List.replicate 40 (0 : Byte)).length ≤ 40 ∧ kindRule 0x01 = some (0, true) ∧
    kindRule 0x10 = some (1, false) ∧ (kindRule 0x77).getD (1, false) = (1, false) := by decide
theorem test_hyp_ReceivedCommandsWellFormed :
    rxCommand 2 (sentChars (BusFrame.bytes ⟨0, some 2, 0x17, []⟩ 1)) = some (.restart []) := by decide +kernel
theorem test_hyp_ReceivedCommandsWellFormed_cut :
    (kindRule 0x01).getD (1, false) = (0, true) ∧ 1 ≤ 4 ∧ 4 < (BusFrame.bytes ⟨0, none, 1, [0]⟩ 0).length ∧
    ∀ c ∈ [(⟨0x55, false, false⟩ : RxChar)], c.mark = false := by decide
theorem test_hyp_DockReplyRoundTrip : ([1] : List Byte).length = (Request.mode true).replyLength ∧
    crc8 [0x83, 1, 0] ≠ crc8 [0x83, 1, 1] := by decide +kernel
theorem test_hyp_FloorStage : (([⟨10, 4, 1⟩, ⟨10, 6, 1⟩] : List Member).map Member.f).sum ≤ 10 ∧
    9 < (([⟨10, 4, 1⟩, ⟨10, 6, 1⟩] : List Member).map Member.f).sum := by decide
theorem test_hyp_DivisionBounds : ∀ m ∈ ([⟨10, 4, 1⟩, ⟨6, 6, 1⟩] : List Member), m.f ≤ m.d := by decide
/-- Figures that are composed of the bay figures, and figures that are not. -/
theorem test_hyp_DivisionBounds_figures : ¬ FiguresOk (Ev.start { acting with shu := { acting.shu with d := 7 } }).s := by
  unfold FiguresOk; decide
/-- The ids for which a station 2 with N_cfg 4 and a LIVE shelf 1 reserves. -/
theorem test_hyp_FloorStage_states : ([3, 4] : List Nat).Nodup ∧ (inBus .isolated).cbi.station = .isolated ∧
    acting.cbi.station = .active ∧ acting.settings.nCfg ≠ 1 ∧
    ∀ id ∈ List.range 9, id ∈ ([3, 4] : List Nat) ↔
      1 ≤ id ∧ id ≤ 4 ∧ id ≠ acting.cbi.ownId.toNat ∧ ∀ p ∈ [peer1 1], p.id.toNat ≠ id := by decide
theorem test_hyp_RequestRule :
    let s := acting.setBscBay .b1 { BscBay.reset 4 with supply := .run, grant := 18 }
    (s.bscBay .b1).supply = .run ∧ (acting.bscBay .b1).supply = .idle ∧
      (computedBay (docked .b1 .active acting) .b1).request = 18 ∧
      (computedBay (docked .b1 .active acting) .b1).chargeCurrent = 2000 := by decide
/-- A bay that charges by its profile entry, one that charges by its fixed current, one that does not charge, and each
floor. -/
theorem test_hyp_RequestRule_entry :
    let u := docked .b1 .active acting
    let x := u.bscBay .b1
    u.settings.profile[0 * 64 + 50 * 64 / 101]? = some ⟨2000, true, .bulk⟩ ∧ x.fixed = none ∧ x.supply = .run ∧
    ((u.setBscBay .b1 { x with fixed := some 1300 }).bscBay .b1).fixed = some 1300 ∧ u.bsc.derate ≠ .cut ∧
    (acting.bscBay .b1).supply = .idle ∧ (∀ r ∈ (u.dlcBay .b1).record, r.inhibit = false) ∧
    (computedBay (u.setPksBay .b1 ⟨[5], none⟩) .b1).floor = 6 ∧ (computedBay (seatedAt .b1 acting) .b1).floor = 2 := by
  decide
theorem test_hyp_NoticeEntered :
    let p : Pending := ⟨.released, 1, 0, 1, 4, 0⟩
    let set := List.replicate 16 p
    16 ≤ set.length ∧ set = [] ++ p :: List.replicate 15 p ∧ p.level < 5 ∧ (∀ q ∈ set, p.level ≤ q.level) ∧
      (∀ q ∈ ([] : List Pending), q.level ≠ p.level) ∧ ∀ q ∈ set, ¬(q.kind = .trimmed ∧ q.bay = 0) := by decide
/-- A set of which the second entry, of the highest level, is handed over, and a frame that wins its head. -/
theorem test_hyp_NoticeEntered_handOver :
    let p : Pending := ⟨.jammed, 2, 1, 1, 6, 0⟩
    let s : State := { acting with ntu := { acting.ntu with entries := [⟨.released, 1, 0, 1, 3, 0⟩, p] } }
    noticeFrames s < 2 ∧ 2 ≤ freeSlots s ∧ s.ntu.entries = [⟨.released, 1, 0, 1, 3, 0⟩] ++ p :: [] ∧ s.ntu.mask < p.level ∧
    (∀ q ∈ s.ntu.entries, q.level ≤ p.level) ∧ (∀ q ∈ [(⟨.released, 1, 0, 1, 3, 0⟩ : Pending)], q.level < p.level) ∧
    (∀ q ∈ [(⟨.released, 1, 0, 1, 3, 0⟩ : Pending)] ++ [], q.kind ≠ p.kind ∨ q.bay ≠ p.bay) ∧
    handOver listening = listening ∧ frameOf .reply 4 ∈ lively.cbi.queue ∧ (frameOf .reply 4).kind ≠ .claim ∧
    (7 : Byte).toNat ≠ acting.ntu.mask ∧ acting.settings.levels.getD 3 0 ≠ 0 := by decide
/-- Events of the station that raise a notice which is held back. -/
theorem test_hyp_NoticeEntered_station : (muted listening).runs = true ∧ (muted listening).masksAll ∧
    (muted listening).cbi.listenUntil.isSome = true ∧ (muted acting).cbi.isolationUntil.isSome = true ∧
    (∀ p ∈ (withPeers acting).shu.peers, p.id = 3 → p.countNoted = false ∧ p.ceilingNoted = false) ∧
    max 1 (min 15 (4 : Byte).toNat) ≠ acting.settings.nCfg ∧
    max 100 (min 2400 ((100 : Byte).toNat + 256 * (0 : Byte).toNat)) ≠ acting.settings.cSel ∧
    findPackage (withPackage .loading (muted acting)).pks.table (5 : Byte).toNat = some (package1 .loading) :=
  ⟨rfl, by unfold State.masksAll; decide, by decide⟩
/-- Events at a bay that raise a notice which is held back. -/
theorem test_hyp_NoticeEntered_bay :
    (∀ s ∈ [withLock .opened (switched true false acting), withDriver (.hold 6000) acting,
        withDriver (.pulse 0 300 false) acting, withEntry .unsecured (switched false true acting),
        withPlain .queued false acting], s.runs = true ∧ ReleasesOk s) ∧
    ((docked .b1 .active acting).dlcBay .b1).dock ≠ .empty ∧
    (∃ r ∈ ((docked .b1 .active acting).dlcBay .b1).record, r.tag ≠ List.replicate 12 0x41) ∧
    tagOk (List.replicate 12 0x41) = true ∧
    entry1.pulse * 70 < (213 - 2 - 0) * 100 ∧ ¬ entry1.pulse * 70 < (212 - 2 - 0) * 100 ∧
    driverAt? (withDriver (.hold 6000) acting) .b1 = some (.d1, entry1, .hold 6000, false) ∧
    1 ≤ (⟨.pending, 1⟩ : Target).attempts ∧
    (∀ b' : BayId, b' ≠ .b1 → ∀ tg ∈ (package1 .ready).targets.get b', tg.outcome ≠ .pending) ∧
    (withPlain .queued false acting).lkc.queue = [{ entry1 with kind := .service }] :=
  ⟨by unfold ReleasesOk LockBayOk; decide, by decide, by decide, by decide, by decide, by decide, by decide, by decide,
    by intro b' h; cases b' <;> first | exact absurd rfl h | decide, by decide⟩

end Sys2Proof.Machine
end

section
/-! Chapter 2, the division and the share computation: what stage 1 grants (R29), what each kind of computation gives
(R25 to R33), and the statement that collects them. -/

namespace Sys2Proof.Machine

/-! ### Stage 1 (R29) -/

theorem stageOne_of_fits {pool : Nat} {ms : List Member} (h : (ms.map Member.f).sum ≤ pool) :
    stageOne pool ms = ms.map Member.f := by
  simp [stageOne, h]

theorem stageOne_of_scaled {pool : Nat} {ms : List Member} (h : pool < (ms.map Member.f).sum) :
    stageOne pool ms = ms.map fun m => m.f * pool / (ms.map Member.f).sum := by
  simp [stageOne, Nat.not_le.mpr h]

@[simp] theorem stageOne_length (pool : Nat) (ms : List Member) : (stageOne pool ms).length = ms.length := by
  unfold stageOne
  dsimp only
  split <;> simp

/-- Rounding each scaled floor down loses power, never gains it. -/
theorem sum_scaled_le (pool total : Nat) (ms : List Member) :
    (ms.map fun m => m.f * pool / total).sum ≤ (ms.map Member.f).sum * pool / total := by
  induction ms with
  | nil => simp
  | cons m ms ih =>
    simp only [List.map_cons, List.sum_cons, Nat.add_mul]
    exact (Nat.add_le_add_left ih _).trans Nat.div_add_div_le_add_div

theorem stageOne_sum_le (pool : Nat) (ms : List Member) : (stageOne pool ms).sum ≤ pool := by
  rcases Nat.lt_or_ge pool (ms.map Member.f).sum with h | h
  · rw [stageOne_of_scaled h]
    refine (sum_scaled_le _ _ _).trans (le_of_eq ?_)
    exact Nat.mul_div_cancel_left _ (by omega)
  · rwa [stageOne_of_fits h]

theorem stageOne_zero {ms : List Member} {g : Nat} (h : g ∈ stageOne 0 ms) : g = 0 :=
  Nat.le_zero.mp ((List.le_sum_of_mem h).trans (stageOne_sum_le 0 ms))

/-! ### The lengths of a division (R30) -/

@[simp] theorem passes_length (n rest : Nat) (l : List (Member × Nat)) : (passes n rest l).length = l.length := by
  induction n generalizing rest l with
  | zero => rfl
  | succ n ih =>
    unfold passes
    dsimp only
    split
    · rfl
    · simp [ih]

@[simp] theorem divide_length (pool : Nat) (ms : List Member) : (divide pool ms).length = ms.length := by
  simp [divide]

/-! ### The effective ceiling (R25) -/

theorem le_foldl_min_iff {c : Nat} (ps : List Peer) (start : Nat) :
    c ≤ ps.foldl (fun c p => min c p.cSel) start ↔ c ≤ start ∧ ∀ p ∈ ps, c ≤ p.cSel := by
  induction ps generalizing start with
  | nil => simp
  | cons p ps ih => simp [ih, and_assoc]

theorem foldl_min_attained (ps : List Peer) (start : Nat) :
    ps.foldl (fun c p => min c p.cSel) start = start ∨
      ∃ p ∈ ps, ps.foldl (fun c p => min c p.cSel) start = p.cSel := by
  induction ps generalizing start with
  | nil => simp
  | cons p ps ih =>
    rw [List.foldl_cons]
    rcases ih (min start p.cSel) with h | ⟨q, hq, h⟩
    · rcases Nat.le_total start p.cSel with hle | hle
      · exact .inl (h.trans (min_eq_left hle))
      · exact .inr ⟨p, by simp, h.trans (min_eq_right hle)⟩
    · exact .inr ⟨q, by simp [hq], h⟩

/-- Whether a station takes part in no common division: it is ISOLATED or CLASHED. -/
def State.alone (s : State) : Prop :=
  s.cbi.station = .isolated ∨ s.cbi.station = .clashed

theorem effectiveCeiling_of_not_alone {s : State} (h : ¬ s.alone) :
    effectiveCeiling s = (livePeers s).foldl (fun c p => min c p.cSel) (ownCeiling s) := by
  unfold effectiveCeiling
  split <;> simp_all [State.alone]

theorem effectiveCeiling_smallest {s : State} (h : ¬ s.alone) :
    effectiveCeiling s ≤ ownCeiling s ∧ (∀ p ∈ livePeers s, effectiveCeiling s ≤ p.cSel) ∧
      (effectiveCeiling s = ownCeiling s ∨ ∃ p ∈ livePeers s, effectiveCeiling s = p.cSel) := by
  rw [effectiveCeiling_of_not_alone h]
  obtain ⟨hown, hlive⟩ := (le_foldl_min_iff (livePeers s) (ownCeiling s)).mp le_rfl
  exact ⟨hown, hlive, foldl_min_attained _ _⟩

/-! ### Which computation runs (R27) -/

theorem shareComputation_of_alone {s : State} (h : s.alone) : shareComputation s = isolatedComputation s := by
  unfold shareComputation
  rcases h with h | h <;> simp [h]

theorem shareComputation_of_single {s : State} (h : ¬ s.alone) (hn : s.settings.nCfg = 1) :
    shareComputation s = singleComputation s := by
  unfold shareComputation
  split <;> simp_all [State.alone]

theorem shareComputation_of_full {s : State} (h : ¬ s.alone) (hn : s.settings.nCfg ≠ 1) :
    shareComputation s = fullComputation s := by
  unfold shareComputation
  split <;> simp_all [State.alone]

theorem shareComputation_cEff_of_not_alone {s : State} (h : ¬ s.alone) :
    (shareComputation s).cEff = effectiveCeiling s := by
  by_cases hn : s.settings.nCfg = 1
  · rw [shareComputation_of_single h hn]; rfl
  · rw [shareComputation_of_full h hn]; rfl

/-! ### The reservation (R26) -/

/-- R26: an id is set aside for exactly where it is neither the own id nor that of a LIVE entry. -/
theorem reservesFor_iff (s : State) (id : Nat) :
    reservesFor s id = true ↔ id ≠ s.cbi.ownId.toNat ∧ ∀ p ∈ livePeers s, p.id.toNat ≠ id := by
  simp [reservesFor]

/-- R26: the reservation, counted over any list that holds the absent ids up to N_cfg once each. -/
theorem reservation_eq {s : State} {ids : List Nat} (riso : Nat) (hnodup : ids.Nodup)
    (hids : ∀ id, id ∈ ids ↔ 1 ≤ id ∧ id ≤ s.settings.nCfg ∧ reservesFor s id = true) :
    reservation s riso = ids.length * riso +
      ((s.shu.peers.filter fun p => p.state = .stale ∧ s.settings.nCfg < p.id.toNat).map Peer.a).sum := by
  have hcounted : (((List.range s.settings.nCfg).map (· + 1)).filter (reservesFor s)).Perm ids := by
    refine (List.perm_ext_iff_of_nodup ?_ hnodup).mpr fun id => ?_
    · exact (List.nodup_range.map (add_left_injective 1)).filter _
    · rw [hids, List.mem_filter, ← and_assoc]
      refine and_congr_left fun _ => ?_
      simp only [List.mem_map, List.mem_range]
      exact ⟨by rintro ⟨k, hk, rfl⟩; omega, fun h => ⟨id - 1, by omega, by omega⟩⟩
  simp [reservation, hcounted.length_eq]

/-! ### The shares stored in the peer entries (R31) -/

/-- R31: the LIVE entries take the grants in their order. -/
theorem storeShares_live : ∀ {ps : List Peer} {gs : List Nat},
    gs.length = (ps.filter fun p => p.state = .live).length →
    ((storeShares ps gs).filter fun p => p.state = .live).map Peer.g = gs
  | [], gs, h => by simpa [storeShares] using h
  | p :: ps, gs, h => by
    unfold storeShares
    by_cases hp : p.state = .live
    · cases gs with
      | nil => simp [hp] at h
      | cons g gs =>
        have hlen : gs.length = (ps.filter fun p => p.state = .live).length := by simpa [hp] using h
        simp [hp, storeShares_live hlen]
    · have hlen : gs.length = (ps.filter fun p => p.state = .live).length := by simpa [hp] using h
      simp [hp, storeShares_live hlen]

/-- R31: an entry that is not LIVE takes no share. -/
theorem storeShares_stale : ∀ {ps : List Peer} {gs : List Nat} {p : Peer},
    p ∈ storeShares ps gs → p.state ≠ .live → p.g = 0
  | [], _, _, h, _ => by simp [storeShares] at h
  | q :: ps, gs, p, h, hp => by
    unfold storeShares at h
    split at h
    · rcases List.mem_cons.mp h with rfl | h
      · contradiction
      · exact storeShares_stale h hp
    · rcases List.mem_cons.mp h with rfl | h
      · rfl
      · exact storeShares_stale h hp

/-- The members of a full computation: the station and the LIVE entries (R28). -/
def viewMembers (s : State) : List Member :=
  s.shu.member :: (livePeers s).map Peer.member

theorem fullComputation_divide (s : State) :
    divide ((fullComputation s).cEff - (fullComputation s).rsv) (viewMembers s) =
      (fullComputation s).share :: ((fullComputation s).peers.filter fun p => p.state = .live).map Peer.g := by
  have hlen := divide_length ((fullComputation s).cEff - (fullComputation s).rsv) (viewMembers s)
  have hshare : (fullComputation s).share =
      (divide ((fullComputation s).cEff - (fullComputation s).rsv) (viewMembers s)).headD 0 := rfl
  have hpeers : (fullComputation s).peers = storeShares s.shu.peers
      (divide ((fullComputation s).cEff - (fullComputation s).rsv) (viewMembers s)).tail := rfl
  rw [hshare, hpeers]
  generalize divide ((fullComputation s).cEff - (fullComputation s).rsv) (viewMembers s) = grants at hlen ⊢
  cases grants with
  | nil => simp [viewMembers] at hlen
  | cons g gs =>
    rw [List.tail_cons, storeShares_live (by simpa [viewMembers, livePeers] using hlen)]
    rfl

theorem fullComputation_floorGrant (s : State) :
    (stageOne ((fullComputation s).cEff - (fullComputation s).rsv) (viewMembers s)).head? =
      some (fullComputation s).floorGrant := by
  have hlen := stageOne_length ((fullComputation s).cEff - (fullComputation s).rsv) (viewMembers s)
  have hgrant : (fullComputation s).floorGrant =
      (stageOne ((fullComputation s).cEff - (fullComputation s).rsv) (viewMembers s)).headD 0 := rfl
  rw [hgrant]
  generalize stageOne ((fullComputation s).cEff - (fullComputation s).rsv) (viewMembers s) = grants at hlen ⊢
  cases grants with
  | nil => simp [viewMembers] at hlen
  | cons g gs => rfl

/-- R31 to R33: a computation writes the shares of the peer entries and nothing else of them. -/
theorem shareComputation_peers (s : State) :
    ((shareComputation s).peers.map fun p => { p with g := 0 }) = s.shu.peers.map fun p => { p with g := 0 } :=
  congrArg Shu.peers (shareComputation_kept s)

/-- R29: the four facts of stage 1. -/
theorem stageOne_grants (pool : Nat) (ms : List Member) :
    ((ms.map Member.f).sum ≤ pool → stageOne pool ms = ms.map Member.f) ∧
    (pool < (ms.map Member.f).sum → stageOne pool ms = ms.map fun m => m.f * pool / (ms.map Member.f).sum) ∧
    (stageOne pool ms).sum ≤ pool ∧
    (pool = 0 → ∀ g ∈ stageOne pool ms, g = 0) :=
  ⟨stageOne_of_fits, stageOne_of_scaled, stageOne_sum_le _ _, fun h _ hg => stageOne_zero (h ▸ hg)⟩

/-- Settles O57: stage 1 by its own lemmas, then each clause by the kind of computation that runs. -/
theorem floorStage : Obligations.FloorStage := by
  unfold Obligations.FloorStage
  refine ⟨stageOne_grants, fun s => ?_⟩
  intro u nCfg live view ceiling riso absent alone
  refine ⟨fun h => ?_, fun h => ?_, fun h hn => ?_, fun h => ?_, fun h hn => ?_, shareComputation_peers s⟩
  · have hu : u = isolatedComputation s := shareComputation_of_alone h
    exact ⟨by rw [hu]; rfl, by simp only [riso, hu]; rfl, by simp only [riso, hu]; rfl⟩
  · have hc : u.cEff = effectiveCeiling s := shareComputation_cEff_of_not_alone h
    rw [hc]
    exact effectiveCeiling_smallest h
  · have hu : u = singleComputation s := shareComputation_of_single h hn
    rw [hu]
    exact ⟨rfl, rfl⟩
  · by_cases ha : s.alone
    · have hu : u = isolatedComputation s := shareComputation_of_alone ha
      rw [hu]
      exact ⟨rfl, by simp [isolatedComputation]⟩
    · have hu : u = singleComputation s := shareComputation_of_single ha (h.resolve_left ha)
      rw [hu]
      exact ⟨rfl, by simp [singleComputation]⟩
  · have hu : u = fullComputation s := shareComputation_of_full h hn
    refine ⟨fun ids hnodup hids => ?_, ?_, ?_, fun p hp hstale => ?_⟩
    · have hrsv : u.rsv = reservation s riso := by simp only [riso, hu]; rfl
      rw [hrsv]
      exact reservation_eq riso hnodup fun id => by rw [hids, reservesFor_iff]; rfl
    · rw [hu]
      exact fullComputation_floorGrant s
    · rw [hu]
      exact fullComputation_divide s
    · rw [hu] at hp
      exact storeShares_stale hp (by simp [hstale])

end Sys2Proof.Machine
end

section
/-! The frame of the Share Unit: what the bays, docks, locks and packages do at an event writes nothing of the Share
Unit and asks for no share computation. One lemma per function of the model, each by the branches of its definition, so that
the facts about shares and limits cite these and unfold none of the functions again. -/

namespace Sys2Proof.Machine

/-! ### What the Share Unit has of an event -/

/-- The Share Unit as an event has it so far, and whether a computation is still to run. -/
def Ev.sharing (ev : Ev) : Shu × Bool :=
  (ev.s.shu, ev.share)

theorem Ev.foldl_sharing {α : Type} {f : Ev → α → Ev} (h : ∀ e a, (f e a).sharing = e.sharing) :
    ∀ (l : List α) (ev : Ev), (l.foldl f ev).sharing = ev.sharing
  | [], _ => rfl
  | a :: l, ev => by rw [List.foldl_cons, Ev.foldl_sharing h l, h]

/-- Only the Share Unit and the mark of a due computation count. -/
@[simp] theorem Ev.sharing_marks (ev : Ev) (raised : List Notice) (figures setpoints evals : List BayId)
    (placed : List (BayId × ItemKind))
    (report overdraw split rework engines claim claimTest freshRaise handover : Bool) :
    Ev.sharing ⟨ev.s, raised, figures, setpoints, evals, placed, report, ev.share, overdraw, split, rework, engines,
      claim, claimTest, freshRaise, handover⟩ = ev.sharing := rfl

theorem Ev.ite_sharing {c : Prop} [Decidable c] {a b ev : Ev} (ha : a.sharing = ev.sharing)
    (hb : b.sharing = ev.sharing) : (if c then a else b).sharing = ev.sharing := by
  split
  · exact ha
  · exact hb

/-! ### The updates -/

section
variable (b : BayId) (k : ItemKind) (ev : Ev)

@[simp] theorem Ev.raiseNotice_sharing (k : NoticeKind) (b n : Nat) : (ev.raiseNotice k b n).sharing = ev.sharing := rfl
@[simp] theorem Ev.needFigures_sharing : (ev.needFigures b).sharing = ev.sharing := rfl
@[simp] theorem Ev.needEval_sharing : (ev.needEval b).sharing = ev.sharing := rfl
@[simp] theorem Ev.updBsc_sharing (f : BscBay → BscBay) : (ev.updBsc b f).sharing = ev.sharing := rfl
@[simp] theorem Ev.updDlc_sharing (f : DlcBay → DlcBay) : (ev.updDlc b f).sharing = ev.sharing := rfl
@[simp] theorem Ev.updPks_sharing (f : PksBay → PksBay) : (ev.updPks b f).sharing = ev.sharing := rfl
@[simp] theorem Ev.updLkc_sharing (f : LkcBay → LkcBay) : (ev.updLkc b f).sharing = ev.sharing := rfl
@[simp] theorem Ev.setCbi_sharing (c : Cbi) : (ev.setCbi c).sharing = ev.sharing := rfl
@[simp] theorem Ev.setTable_sharing (t : List Package) : (ev.setTable t).sharing = ev.sharing := rfl
@[simp] theorem Ev.setQueueAndDrivers_sharing (l : Lkc) : (ev.setQueueAndDrivers l).sharing = ev.sharing := rfl
@[simp] theorem Ev.setDlc_sharing (d : Dlc) : (ev.setDlc d).sharing = ev.sharing := rfl

@[simp] theorem Ev.reply_sharing (kind id : Byte) (code : ResultCode) : (ev.reply kind id code).sharing = ev.sharing :=
  rfl

@[simp] theorem Ev.placeItem_sharing : (ev.placeItem b k).sharing = ev.sharing := rfl

@[simp] theorem Ev.replyBadLength_sharing (kind : Byte) (payload : List Byte) :
    (ev.replyBadLength kind payload).sharing = ev.sharing := by
  unfold Ev.replyBadLength
  split <;> rfl

end

/-! ### The work queue -/

section
variable (b : BayId) (k : ItemKind) (ev : Ev)

@[simp] theorem Ev.request_sharing : (ev.request b k).sharing = ev.sharing := by
  unfold Ev.request
  dsimp only
  split_ifs <;> simp

@[simp] theorem Ev.placeDeferred_sharing : ev.placeDeferred.sharing = ev.sharing := by
  unfold Ev.placeDeferred
  dsimp only
  split <;> simp

@[simp] theorem Ev.leaveQueue_sharing : (ev.leaveQueue b k).sharing = ev.sharing := by
  unfold Ev.leaveQueue
  split <;> simp

@[simp] theorem Ev.evaluate_sharing : (ev.evaluate b).sharing = ev.sharing := by
  unfold Ev.evaluate
  split <;> simp

@[simp] theorem Ev.evaluateBays_sharing : ev.evaluateBays.sharing = ev.sharing :=
  Ev.foldl_sharing (fun e b => by simp) _ _

@[simp] theorem Ev.placeDeferreds_sharing : ∀ (n : Nat) (ev : Ev), (ev.placeDeferreds n).sharing = ev.sharing
  | 0, _ => rfl
  | n + 1, ev => (Ev.placeDeferreds_sharing n _).trans (Ev.placeDeferred_sharing ev)

end

/-! ### Packages -/

section
variable (id : Nat) (b : BayId) (r : TransferResult) (payload : List Byte) (ev : Ev)

@[simp] theorem Ev.setList_sharing (l : List Nat) : (ev.setList b l).sharing = ev.sharing := by
  unfold Ev.setList
  dsimp only
  split_ifs <;> simp

@[simp] theorem Ev.unlist_sharing : (Ev.unlist id ev b).sharing = ev.sharing := by
  simp [Ev.unlist]

@[simp] theorem Ev.unlistAll_sharing : (ev.unlistAll id).sharing = ev.sharing :=
  Ev.foldl_sharing (fun e b => by simp) _ _

@[simp] theorem Ev.settlePackage_sharing (st : PackageState) : (ev.settlePackage id st).sharing = ev.sharing := rfl

@[simp] theorem Ev.completePackage_sharing : (ev.completePackage id).sharing = ev.sharing := by
  unfold Ev.completePackage
  split
  · simp
  · split <;> simp

@[simp] theorem Ev.recordResult_sharing : (ev.recordResult b id r).sharing = ev.sharing := by
  unfold Ev.recordResult
  split
  · simp
  · split
    · simp
    · dsimp only
      split_ifs <;> simp

@[simp] theorem Ev.startRetry_sharing : (ev.startRetry b r).sharing = ev.sharing := by
  unfold Ev.startRetry
  split <;> simp

@[simp] theorem Ev.freeWithdrawn_sharing : (ev.freeWithdrawn id).sharing = ev.sharing := by
  unfold Ev.freeWithdrawn
  split
  · split <;> simp
  · simp

@[simp] theorem Ev.endTransfer_sharing : (ev.endTransfer b r).sharing = ev.sharing := by
  unfold Ev.endTransfer
  split <;> simp

@[simp] theorem Ev.abortSuspended_sharing (cause : AbortCause) : (ev.abortSuspended b cause).sharing = ev.sharing := by
  unfold Ev.abortSuspended
  split
  · split <;> simp
  · simp

@[simp] theorem Ev.setTakeover_sharing : (ev.setTakeover b).sharing = ev.sharing := by
  simp [Ev.setTakeover]

@[simp] theorem Ev.abortWithdrawn_sharing : (Ev.abortWithdrawn id ev b).sharing = ev.sharing := by
  unfold Ev.abortWithdrawn
  split
  · split <;> simp
  · simp

@[simp] theorem Ev.listOn_sharing : (Ev.listOn id ev b).sharing = ev.sharing := by
  unfold Ev.listOn
  dsimp only
  split
  · simp
  · split <;> simp

@[simp] theorem Ev.makeReady_sharing : (ev.makeReady id).sharing = ev.sharing := by
  have hlist (e : Ev) : (BayId.all.foldl (Ev.listOn id) e).sharing = e.sharing :=
    Ev.foldl_sharing (fun e b => Ev.listOn_sharing id b e) _ _
  simp [Ev.makeReady, hlist]

@[simp] theorem Ev.failPackage_sharing (st : PackageState) : (ev.failPackage id st).sharing = ev.sharing := rfl

@[simp] theorem Ev.checkPackage_sharing (p : Package) : (ev.checkPackage p).sharing = ev.sharing := by
  unfold Ev.checkPackage
  split <;> simp

@[simp] theorem Ev.storeNext_sharing (p : Package) (bytes : List Byte) :
    (ev.storeNext p bytes).sharing = ev.sharing := by
  unfold Ev.storeNext
  dsimp only
  split
  · rw [Ev.checkPackage_sharing]; rfl
  · rfl

@[simp] theorem Ev.loadBlock_sharing (offset : Nat) (bytes : List Byte) :
    (ev.loadBlock id offset bytes).sharing = ev.sharing := by
  unfold Ev.loadBlock
  repeat' split
  all_goals simp

@[simp] theorem Ev.packageData_sharing : (ev.packageData payload).sharing = ev.sharing := by
  unfold Ev.packageData
  split
  · split <;> simp
  · simp

@[simp] theorem Ev.openPackage_sharing (id : Byte) (length check : Nat) (targets : Byte) :
    (ev.openPackage id length check targets).sharing = ev.sharing := by
  unfold Ev.openPackage
  dsimp only
  split
  · simp
  · split <;> simp

@[simp] theorem Ev.packageOpen_sharing : (ev.packageOpen payload).sharing = ev.sharing := by
  unfold Ev.packageOpen
  split <;> simp

@[simp] theorem Ev.withdrawEntry_sharing (id : Byte) (p : Package) : (ev.withdrawEntry id p).sharing = ev.sharing := by
  have habort (n : Nat) (e : Ev) : (BayId.all.foldl (Ev.abortWithdrawn n) e).sharing = e.sharing :=
    Ev.foldl_sharing (fun e b => Ev.abortWithdrawn_sharing n b e) _ _
  unfold Ev.withdrawEntry
  split
  case h_6 =>
    dsimp only
    split <;> simp [habort]
  all_goals simp

@[simp] theorem Ev.withdraw_sharing (id : Byte) : (ev.withdraw id).sharing = ev.sharing := by
  unfold Ev.withdraw
  split
  · simp
  · split <;> simp

@[simp] theorem Ev.packageWithdraw_sharing : (ev.packageWithdraw payload).sharing = ev.sharing := by
  unfold Ev.packageWithdraw
  split <;> simp

end

/-! ### The docks -/

section
variable (b : BayId) (i : EngineId) (item : WorkItem) (free : Bool) (payload : List Byte) (ev : Ev)

@[simp] theorem Ev.setDock_sharing (d : DockState) : (ev.setDock b d).sharing = ev.sharing := rfl

@[simp] theorem Ev.answered_sharing : (ev.answered b).sharing = ev.sharing := by
  unfold Ev.answered
  split <;> simp

@[simp] theorem Ev.changeRecord_sharing (f : TabletRecord → TabletRecord) :
    (ev.changeRecord b f).sharing = ev.sharing := rfl

@[simp] theorem Ev.writeStatus_sharing (percent : Option Nat) (inhibit : Bool) :
    (ev.writeStatus b percent inhibit free).sharing = ev.sharing := by
  unfold Ev.writeStatus
  dsimp only
  split
  · simp
  · split
    · simp
    · split <;> simp

@[simp] theorem Ev.modeHeld_sharing : (ev.modeHeld b free).sharing = ev.sharing := by
  unfold Ev.modeHeld
  split <;> simp

@[simp] theorem Ev.send_sharing (r : Request) : (ev.send i item r).sharing = ev.sharing := rfl
@[simp] theorem Ev.release_sharing : (ev.release i).sharing = ev.sharing := rfl
@[simp] theorem Ev.endModeWait_sharing : (ev.endModeWait b).sharing = ev.sharing := rfl

@[simp] theorem Ev.reportMode_sharing : (ev.reportMode b free).sharing = ev.sharing := by
  unfold Ev.reportMode
  split <;> simp

@[simp] theorem Ev.modeUnanswered_sharing : (ev.modeUnanswered b free).sharing = ev.sharing := by
  simp [Ev.modeUnanswered]

@[simp] theorem Ev.statusUnanswered_sharing : (ev.statusUnanswered b).sharing = ev.sharing := by
  unfold Ev.statusUnanswered
  dsimp only
  split <;> simp

@[simp] theorem Ev.identUnanswered_sharing : (ev.identUnanswered b).sharing = ev.sharing := by
  unfold Ev.identUnanswered
  split <;> simp

@[simp] theorem Ev.endPackageItem_sharing : (ev.endPackageItem i b).sharing = ev.sharing := rfl

@[simp] theorem Ev.startTransfer_sharing : (ev.startTransfer i item).sharing = ev.sharing := by
  unfold Ev.startTransfer
  split
  · simp
  · exact Ev.send_sharing _ _ _ _

@[simp] theorem Ev.continueOrEnd_sharing : (ev.continueOrEnd i item).sharing = ev.sharing := by
  unfold Ev.continueOrEnd
  split <;> simp

@[simp] theorem Ev.finishTransfer_sharing (r : TransferResult) : (ev.finishTransfer i item r).sharing = ev.sharing := by
  simp [Ev.finishTransfer]

@[simp] theorem Ev.startExchange_sharing : (ev.startExchange i item).sharing = ev.sharing := by
  unfold Ev.startExchange
  split
  case h_3 | h_4 => split <;> simp
  all_goals simp

@[simp] theorem Ev.suspend_sharing (waiting : WorkItem) : (ev.suspend i item waiting).sharing = ev.sharing := by
  simp [Ev.suspend]

@[simp] theorem Ev.boundary_sharing : (ev.boundary i item).sharing = ev.sharing := by
  unfold Ev.boundary
  split
  · simp
  · split
    · simp
    · split <;> simp

@[simp] theorem Ev.takePackage_sharing : (ev.takePackage i item).sharing = ev.sharing := by
  unfold Ev.takePackage
  split
  · simp
  · split <;> simp

@[simp] theorem Ev.takeItem_sharing : (ev.takeItem i item).sharing = ev.sharing := by
  unfold Ev.takeItem
  split <;> simp

@[simp] theorem Ev.lookForItem_sharing : (ev.lookForItem i).sharing = ev.sharing := by
  unfold Ev.lookForItem
  split
  · split <;> simp
  · simp

@[simp] theorem Ev.runEngines_sharing : ev.runEngines.sharing = ev.sharing := by
  simp [Ev.runEngines]

@[simp] theorem Ev.noAnswer_sharing : (ev.noAnswer i item).sharing = ev.sharing := by
  unfold Ev.noAnswer
  split <;> simp

@[simp] theorem Ev.tryFailed_sharing : (ev.tryFailed b).sharing = ev.sharing := by
  unfold Ev.tryFailed
  split
  · simp
  · split <;> simp

@[simp] theorem Ev.repeatRequest_sharing : (ev.repeatRequest b).sharing = ev.sharing := by
  unfold Ev.repeatRequest
  split <;> simp

@[simp] theorem Ev.notQuiet_sharing : (ev.notQuiet b).sharing = ev.sharing := by
  unfold Ev.notQuiet
  split <;> simp

@[simp] theorem Ev.compareTag_sharing (detail : Nat) : (ev.compareTag b detail).sharing = ev.sharing := by
  unfold Ev.compareTag
  split
  · split <;> simp
  · simp

@[simp] theorem Ev.identified_sharing (r : TabletRecord) : (ev.identified b r).sharing = ev.sharing := by
  unfold Ev.identified
  dsimp only
  split_ifs <;> simp

@[simp] theorem Ev.statusTaken_sharing (percent : Option Nat) (inhibit : Bool) :
    (ev.statusTaken b percent inhibit free).sharing = ev.sharing := by
  simp [Ev.statusTaken]

@[simp] theorem Ev.modeTaken_sharing (asked held : Bool) : (ev.modeTaken b asked held).sharing = ev.sharing := by
  unfold Ev.modeTaken
  split <;> simp

@[simp] theorem Ev.beginTaken_sharing (r : BeginReply) : (ev.beginTaken i item r).sharing = ev.sharing := by
  unfold Ev.beginTaken
  split <;> simp

@[simp] theorem Ev.blockTaken_sharing (index : Nat) (r : BlockReply) :
    (ev.blockTaken i item index r).sharing = ev.sharing := by
  unfold Ev.blockTaken
  split
  · simp
  · split
    case h_2 => split <;> simp
    all_goals simp

@[simp] theorem Ev.endTaken_sharing (done : Bool) : (ev.endTaken i item done).sharing = ev.sharing := by
  simp [Ev.endTaken]

@[simp] theorem Ev.dropServed_sharing : (ev.dropServed b).sharing = ev.sharing := by
  unfold Ev.dropServed
  split
  · simp
  · split
    · simp
    · split <;> simp

@[simp] theorem Ev.dropItems_sharing : (ev.dropItems b).sharing = ev.sharing := by
  simp [Ev.dropItems]

@[simp] theorem Ev.identReply_sharing : (ev.identReply b payload).sharing = ev.sharing := by
  unfold Ev.identReply
  split
  · split <;> simp
  · simp

@[simp] theorem Ev.statusReply_sharing : (ev.statusReply b payload).sharing = ev.sharing := by
  unfold Ev.statusReply
  split
  · split <;> simp
  · simp

@[simp] theorem Ev.modeReply_sharing : (ev.modeReply b payload).sharing = ev.sharing := by
  unfold Ev.modeReply
  split
  · split <;> simp
  · simp

@[simp] theorem Ev.pkgBeginReply_sharing : (ev.pkgBeginReply b payload).sharing = ev.sharing := by
  unfold Ev.pkgBeginReply
  split
  · split <;> simp
  · simp

@[simp] theorem Ev.pkgBlockReply_sharing : (ev.pkgBlockReply b payload).sharing = ev.sharing := by
  unfold Ev.pkgBlockReply
  split
  · split <;> simp
  · simp

@[simp] theorem Ev.pkgEndReply_sharing : (ev.pkgEndReply b payload).sharing = ev.sharing := by
  unfold Ev.pkgEndReply
  split
  · split <;> simp
  · simp

@[simp] theorem Ev.pollOver_sharing : (ev.pollOver b).sharing = ev.sharing := by
  unfold Ev.pollOver
  dsimp only
  split <;> simp

@[simp] theorem Ev.identOver_sharing : (ev.identOver b).sharing = ev.sharing := by
  unfold Ev.identOver
  dsimp only
  split <;> simp

end

/-! ### The locks and releases -/

section
variable (b : BayId) (i : DriverId) (e : ReleaseEntry) (kind : ReleaseKind) (opened : Bool) (ev : Ev)

@[simp] theorem Ev.setLock_sharing (l : LockState) : (ev.setLock b l).sharing = ev.sharing := by
  unfold Ev.setLock
  dsimp only
  refine Ev.ite_sharing rfl (Ev.ite_sharing ?_ ((Ev.abortSuspended_sharing _ _ _).trans ?_)) <;>
    exact Ev.ite_sharing ((Ev.request_sharing _ _ _).trans (Ev.ite_sharing rfl rfl)) (Ev.ite_sharing rfl rfl)

@[simp] theorem Ev.rest_sharing : (ev.rest b).sharing = ev.sharing := by
  simp [Ev.rest]

@[simp] theorem Ev.unsecure_sharing (detail : Nat) : (ev.unsecure b detail).sharing = ev.sharing := by
  simp [Ev.unsecure]

@[simp] theorem Ev.removeEntry_sharing : (ev.removeEntry b).sharing = ev.sharing := rfl
@[simp] theorem Ev.setOutcome_sharing (o : ReleaseOutcome) : (ev.setOutcome b o).sharing = ev.sharing := rfl

@[simp] theorem Ev.restoreMode_sharing : (ev.restoreMode b kind).sharing = ev.sharing := by
  unfold Ev.restoreMode
  split <;> simp

@[simp] theorem Ev.endRelease_sharing (o : ReleaseOutcome) : (ev.endRelease b kind o).sharing = ev.sharing := by
  simp [Ev.endRelease]

@[simp] theorem Ev.noteOpened_sharing : (ev.noteOpened b).sharing = ev.sharing := rfl
@[simp] theorem Ev.released_sharing : (ev.released b kind).sharing = ev.sharing := rfl

@[simp] theorem Ev.judgeClose_sharing : (ev.judgeClose b).sharing = ev.sharing := by
  unfold Ev.judgeClose
  split
  · simp
  · split
    · split <;> simp
    · simp

@[simp] theorem Ev.noteTaken_sharing : (ev.noteTaken b).sharing = ev.sharing := rfl

@[simp] theorem Ev.takeEntry_sharing : (ev.takeEntry i e).sharing = ev.sharing := by
  simp [Ev.takeEntry]

@[simp] theorem Ev.freeDriver_sharing : (ev.freeDriver i).sharing = ev.sharing := rfl

@[simp] theorem Ev.dropUnpowered_sharing : (ev.dropUnpowered e).sharing = ev.sharing := by
  unfold Ev.dropUnpowered
  dsimp only
  split <;> simp

@[simp] theorem Ev.reworkEntries_sharing : ev.reworkEntries.sharing = ev.sharing := by
  unfold Ev.reworkEntries
  dsimp only
  split
  · simp
  · split
    · simp
    · split <;> simp

@[simp] theorem Ev.sawRetraction_sharing (time pulse : Nat) : (ev.sawRetraction b time pulse).sharing = ev.sharing := by
  unfold Ev.sawRetraction
  split <;> simp

@[simp] theorem Ev.startPulse_sharing : (ev.startPulse i e).sharing = ev.sharing := by
  unfold Ev.startPulse
  dsimp only
  split <;> simp

@[simp] theorem Ev.jam_sharing : (ev.jam i e).sharing = ev.sharing := by
  unfold Ev.jam
  dsimp only
  split <;> simp

@[simp] theorem Ev.endPulse_sharing (seen : Bool) : (ev.endPulse i e seen opened).sharing = ev.sharing := by
  unfold Ev.endPulse
  dsimp only
  split_ifs <;> simp

@[simp] theorem Ev.startExtendWait_sharing : (ev.startExtendWait b).sharing = ev.sharing := rfl

@[simp] theorem Ev.endHold_sharing : (ev.endHold i e opened).sharing = ev.sharing := by
  unfold Ev.endHold
  split <;> simp

@[simp] theorem Ev.stopCooldown_sharing : (ev.stopCooldown b).sharing = ev.sharing := rfl

@[simp] theorem Ev.leaveCooldown_sharing : (ev.leaveCooldown b).sharing = ev.sharing := by
  unfold Ev.leaveCooldown
  dsimp only
  split <;> simp

@[simp] theorem Ev.readDoor_sharing (isOpen : Bool) : (ev.readDoor b isOpen).sharing = ev.sharing := rfl
@[simp] theorem Ev.readBolt_sharing (retracted : Bool) : (ev.readBolt b retracted).sharing = ev.sharing := rfl

@[simp] theorem Ev.dropEntry_sharing : (ev.dropEntry b).sharing = ev.sharing := by
  unfold Ev.dropEntry
  split <;> simp

@[simp] theorem Ev.openEntry_sharing : (ev.openEntry b).sharing = ev.sharing := by
  unfold Ev.openEntry
  split <;> simp

@[simp] theorem Ev.forceOpen_sharing (before : LockState) : (ev.forceOpen b before).sharing = ev.sharing := by
  simp [Ev.forceOpen]

@[simp] theorem Ev.seeInPulse_sharing (energized untilTime : Nat) (seen : Bool) (debounce : Nat) :
    (ev.seeInPulse i e energized untilTime seen opened debounce).sharing = ev.sharing := by
  unfold Ev.seeInPulse
  split <;> simp

@[simp] theorem Ev.openInPrepare_sharing : (ev.openInPrepare b).sharing = ev.sharing := by
  unfold Ev.openInPrepare
  split <;> simp

@[simp] theorem Ev.openInPulse_sharing : (ev.openInPulse b).sharing = ev.sharing := by
  unfold Ev.openInPulse
  split
  · split <;> simp
  · simp

@[simp] theorem Ev.openInHold_sharing : (ev.openInHold b).sharing = ev.sharing := by
  unfold Ev.openInHold
  split <;> simp

@[simp] theorem Ev.openInCooldown_sharing : (ev.openInCooldown b).sharing = ev.sharing := by
  unfold Ev.openInCooldown
  dsimp only
  split <;> simp

@[simp] theorem Ev.doorOpens_sharing : (ev.doorOpens b).sharing = ev.sharing := by
  unfold Ev.doorOpens
  dsimp only
  split <;> simp

@[simp] theorem Ev.doorCloses_sharing : (ev.doorCloses b).sharing = ev.sharing := by
  unfold Ev.doorCloses
  dsimp only
  repeat' split
  all_goals simp

@[simp] theorem Ev.boltRetracts_sharing : (ev.boltRetracts b).sharing = ev.sharing := by
  unfold Ev.boltRetracts
  dsimp only
  repeat' split
  all_goals simp

@[simp] theorem Ev.boltExtends_sharing : (ev.boltExtends b).sharing = ev.sharing := by
  unfold Ev.boltExtends
  dsimp only
  repeat' split
  all_goals simp

@[simp] theorem Ev.extendWaitOver_sharing : (ev.extendWaitOver b).sharing = ev.sharing := by
  unfold Ev.extendWaitOver
  dsimp only
  split <;> simp

@[simp] theorem Ev.dropCheckout_sharing : (ev.dropCheckout b).sharing = ev.sharing := by
  unfold Ev.dropCheckout
  dsimp only
  repeat' split
  all_goals simp

@[simp] theorem Ev.admitRelease_sharing (holdWindow : Nat) :
    (ev.admitRelease b kind holdWindow).sharing = ev.sharing := by
  unfold Ev.admitRelease
  dsimp only
  repeat' split
  all_goals simp

@[simp] theorem Ev.limitFalls_sharing : (ev.limitFalls b).sharing = ev.sharing := rfl

end

/-! ### The supplies and the seating of tablets -/

section
variable (b : BayId) (ev : Ev)

@[simp] theorem Ev.computeBay_sharing : (ev.computeBay b).sharing = ev.sharing := rfl

@[simp] theorem Ev.computeFigures_sharing : ev.computeFigures.sharing = ev.sharing :=
  Ev.foldl_sharing (fun e b => by simp) _ _

@[simp] theorem Ev.computeSetpoint_sharing : (ev.computeSetpoint b).sharing = ev.sharing := rfl

@[simp] theorem Ev.computeSetpoints_sharing : ev.computeSetpoints.sharing = ev.sharing :=
  Ev.foldl_sharing (fun e b => by simp) _ _

@[simp] theorem Ev.runSplit_sharing : ev.runSplit.sharing = ev.sharing := by
  unfold Ev.runSplit
  rw [Ev.foldl_sharing fun e b => Ev.computeSetpoint_sharing b e]
  simp only [Ev.sharing]

@[simp] theorem Ev.splitOrSetpoints_sharing : ev.splitOrSetpoints.sharing = ev.sharing := by
  unfold Ev.splitOrSetpoints
  split <;> simp

@[simp] theorem Ev.supplyOn_sharing : (ev.supplyOn b).sharing = ev.sharing := rfl
@[simp] theorem Ev.supplyOff_sharing : (ev.supplyOff b).sharing = ev.sharing := rfl
@[simp] theorem Ev.supplyFault_sharing (c : SupplyCondition) : (ev.supplyFault b c).sharing = ev.sharing := rfl

@[simp] theorem Ev.noteSensor_sharing (number : Nat) (before after : Sensor) :
    (ev.noteSensor number before after).sharing = ev.sharing := by
  unfold Ev.noteSensor
  split <;> simp

@[simp] theorem Ev.noteDerate_sharing (before after : DerateLevel) (t : Option Int) :
    (ev.noteDerate before after t).sharing = ev.sharing := by
  unfold Ev.noteDerate
  split_ifs <;> simp

@[simp] theorem Ev.sample_sharing (r1 r2 : Int) : (ev.sample r1 r2).sharing = ev.sharing := by
  simp only [Ev.sample, Ev.noteDerate_sharing, Ev.noteSensor_sharing]
  rfl

@[simp] theorem Ev.presenceGained_sharing : (ev.presenceGained b).sharing = ev.sharing := by
  unfold Ev.presenceGained
  split <;> simp

@[simp] theorem Ev.noteUnseated_sharing : (ev.noteUnseated b).sharing = ev.sharing := by
  unfold Ev.noteUnseated
  dsimp only
  split <;> simp

@[simp] theorem Ev.presenceLost_sharing : (ev.presenceLost b).sharing = ev.sharing := by
  unfold Ev.presenceLost
  split <;> simp

end

/-! ### The commands of the panel and the station -/

section
variable (b : BayId) (bay : Byte) (payload : List Byte) (ev : Ev)

theorem Ev.forBay_sharing (kind : Byte) {body : BayId → Ev → Ev} (h : ∀ b e, (body b e).sharing = e.sharing) :
    (ev.forBay kind bay body).sharing = ev.sharing := by
  unfold Ev.forBay
  split
  · simp
  · exact h _ _

@[simp] theorem Ev.tryRelease_sharing (kind : ReleaseKind) (hold : Byte) :
    (ev.tryRelease kind bay hold b).sharing = ev.sharing := by
  unfold Ev.tryRelease
  split <;> simp

@[simp] theorem Ev.badRelease_sharing : (ev.badRelease payload).sharing = ev.sharing := by
  unfold Ev.badRelease
  split
  · split <;> exact Ev.forBay_sharing _ _ _ fun _ _ => by simp
  · simp

@[simp] theorem Ev.setQuarantine_sharing (setting : Byte) : (ev.setQuarantine bay setting b).sharing = ev.sharing := by
  unfold Ev.setQuarantine
  split <;> simp

@[simp] theorem Ev.quarantine_sharing : (ev.quarantine payload).sharing = ev.sharing := by
  unfold Ev.quarantine
  split
  · exact Ev.forBay_sharing _ _ _ fun _ _ => by simp
  · simp

@[simp] theorem Ev.clearAssignment_sharing : (ev.clearAssignment bay b).sharing = ev.sharing := rfl

@[simp] theorem Ev.setAssignment_sharing (tag : Tag) : (ev.setAssignment bay tag b).sharing = ev.sharing := by
  unfold Ev.setAssignment
  split_ifs <;> simp

@[simp] theorem Ev.assign_sharing : (ev.assign payload).sharing = ev.sharing := by
  unfold Ev.assign
  split
  · split
    · exact Ev.forBay_sharing _ _ _ fun _ _ => by simp
    · simp
  · simp

@[simp] theorem Ev.setWeight_sharing (weight : Byte) : (ev.setWeight bay weight b).sharing = ev.sharing := rfl

@[simp] theorem Ev.needed_sharing : (ev.needed payload).sharing = ev.sharing := by
  unfold Ev.needed
  split
  · exact Ev.forBay_sharing _ _ _ fun _ _ => by simp
  · simp

@[simp] theorem Ev.clearFixed_sharing : (ev.clearFixed bay b).sharing = ev.sharing := rfl

@[simp] theorem Ev.setFixed_sharing (current : Nat) : (ev.setFixed bay current b).sharing = ev.sharing := by
  unfold Ev.setFixed
  split <;> simp

@[simp] theorem Ev.fix_sharing : (ev.fix payload).sharing = ev.sharing := by
  unfold Ev.fix
  split
  · split <;> exact Ev.forBay_sharing _ _ _ fun _ _ => by simp
  · simp

@[simp] theorem Ev.setMask_sharing : (ev.setMask payload).sharing = ev.sharing := by
  unfold Ev.setMask
  split
  · split <;> rfl
  · rfl

@[simp] theorem Ev.badQuery_sharing : (ev.badQuery payload).sharing = ev.sharing := by
  unfold Ev.badQuery
  split
  · split <;> simp
  · simp

@[simp] theorem Ev.restart_sharing : (ev.restart payload).sharing = ev.sharing := by
  unfold Ev.restart
  split <;> rfl

@[simp] theorem Ev.noteImage_sharing (check : ImageCheck) : (ev.noteImage check).sharing = ev.sharing := by
  unfold Ev.noteImage
  split <;> simp

@[simp] theorem Ev.raiseIf_sharing (c : Bool) (k : NoticeKind) (b n : Nat) :
    (ev.raiseIf c k b n).sharing = ev.sharing := by
  unfold Ev.raiseIf
  split <;> simp

end

end Sys2Proof.Machine
end

section
/-! The share computation within an event (R27): what it reads, and that a whole event leaves the results of a
computation over the state that it leaves, however many rounds its settling takes. -/

namespace Sys2Proof.Machine

/-! ### What a share computation reads -/

/-- D, F and W as the Share Unit holds them. -/
def Shu.figures (u : Shu) : Nat × Nat × Nat :=
  (u.d, u.f, u.w)

/-- The results of the latest computation as the Share Unit holds them. -/
def Shu.results (u : Shu) : Nat × Nat × Nat × Nat :=
  (u.cEff, u.rsv, u.share, u.floorGrant)

/-- A peer entry without its share. -/
def Peer.ungranted (p : Peer) : Peer :=
  { p with g := 0 }

/-- The part of the state that a computation reads: what an event keeps, with D, F and W. -/
def State.shareView (s : State) : State :=
  { s.still with shu := { s.still.shu with d := s.shu.d, f := s.shu.f, w := s.shu.w } }

theorem State.shareView_congr {s t : State} (hstill : t.still = s.still) (hfig : t.shu.figures = s.shu.figures) :
    t.shareView = s.shareView := by
  obtain ⟨hd, hf, hw⟩ : t.shu.d = s.shu.d ∧ t.shu.f = s.shu.f ∧ t.shu.w = s.shu.w := by
    simpa [Shu.figures] using hfig
  rw [State.shareView, hstill, hd, hf, hw, State.shareView]

section
variable (s : State)

theorem livePeers_shareView : livePeers s.shareView = (livePeers s).map Peer.ungranted :=
  List.filter_map

theorem effectiveCeiling_shareView : effectiveCeiling s.shareView = effectiveCeiling s := by
  simp only [effectiveCeiling, livePeers_shareView, List.foldl_map]
  rfl

theorem reservesFor_shareView (id : Nat) : reservesFor s.shareView id = reservesFor s id := by
  simp only [reservesFor, livePeers_shareView, List.any_map]
  rfl

theorem reservation_shareView (riso : Nat) : reservation s.shareView riso = reservation s riso := by
  have hpeers : s.shareView.shu.peers = s.shu.peers.map Peer.ungranted := rfl
  have hids : reservesFor s.shareView = reservesFor s := funext (reservesFor_shareView s)
  simp only [reservation, hids, hpeers, List.filter_map, List.map_map]
  rfl

theorem viewMembers_shareView : viewMembers s.shareView = viewMembers s := by
  simp only [viewMembers, livePeers_shareView, List.map_map]
  rfl

/-- A computation reads no more than `State.shareView` holds. -/
theorem shareComputation_shareView : (shareComputation s.shareView).results = (shareComputation s).results := by
  by_cases ha : s.alone
  · rw [shareComputation_of_alone ha, shareComputation_of_alone (s := s.shareView) ha]
    rfl
  · by_cases hn : s.settings.nCfg = 1
    · rw [shareComputation_of_single ha hn, shareComputation_of_single (s := s.shareView) ha hn]
      simp only [Shu.results, singleComputation, effectiveCeiling_shareView]
      rfl
    · rw [shareComputation_of_full ha hn, shareComputation_of_full (s := s.shareView) ha hn]
      have hmembers := viewMembers_shareView s
      simp only [viewMembers] at hmembers
      simp only [Shu.results, fullComputation, effectiveCeiling_shareView, reservation_shareView, hmembers]
      rfl

end

/-- The results in the Share Unit are those that a computation gives now. -/
def State.sharesStand (s : State) : Prop :=
  s.shu.results = (shareComputation s).results

theorem State.sharesStand_congr {s t : State} (hstill : t.still = s.still) (hfig : t.shu.figures = s.shu.figures)
    (hres : t.shu.results = s.shu.results) (h : s.sharesStand) : t.sharesStand := by
  rw [State.sharesStand, hres, h, ← shareComputation_shareView s, ← shareComputation_shareView t,
    State.shareView_congr hstill hfig]

/-! ### The computation of an event -/

@[simp] theorem shareComputation_figures (s : State) : (shareComputation s).figures = s.shu.figures := by
  by_cases ha : s.alone
  · rw [shareComputation_of_alone ha]; rfl
  · by_cases hn : s.settings.nCfg = 1
    · rw [shareComputation_of_single ha hn]; rfl
    · rw [shareComputation_of_full ha hn]; rfl

section
variable (station : StationState) (hold now : Nat) (u : Shu)

@[simp] theorem followShare_figures : (followShare station hold now u).figures = u.figures := by
  unfold followShare
  split_ifs
  case neg => split <;> rfl
  all_goals rfl

@[simp] theorem followShare_results : (followShare station hold now u).results = u.results := by
  unfold followShare
  split_ifs
  case neg => split <;> rfl
  all_goals rfl

end

theorem State.still_of_kept {s t : State} (h : t.kept = s.kept) : t.still = s.still := by
  rw [State.still, h, State.still]

theorem State.runs_of_kept {s t : State} (h : t.kept = s.kept) : t.runs = s.runs := by
  have hstation : t.cbi.station = s.cbi.station := State.still_station (State.still_of_kept h)
  rw [State.runs, hstation, State.runs]

/-- No computation is due that has not been noted. -/
def Ev.sharesDue (ev : Ev) : Prop :=
  ev.share = true ∨ ev.s.sharesStand

/-- The computation has run, and nothing that it reads has changed since. -/
def Ev.sharesDone (ev : Ev) : Prop :=
  ev.share = false ∧ ev.s.sharesStand

theorem Ev.sharesDone.due {ev : Ev} (h : ev.sharesDone) : ev.sharesDue :=
  .inr h.2

section
variable {ev ev' : Ev} (hkept : ev'.s.kept = ev.s.kept) (hsharing : ev'.sharing = ev.sharing)
include hkept hsharing

theorem Ev.sharesDone_congr (h : ev.sharesDone) : ev'.sharesDone := by
  obtain ⟨hshu, hshare⟩ : ev'.s.shu = ev.s.shu ∧ ev'.share = ev.share := by simpa [Ev.sharing] using hsharing
  obtain ⟨hdone, hstand⟩ := h
  exact ⟨hshare.trans hdone,
    State.sharesStand_congr (State.still_of_kept hkept) (by rw [hshu]) (by rw [hshu]) hstand⟩

theorem Ev.sharesDue_congr (h : ev.sharesDue) : ev'.sharesDue := by
  obtain ⟨hshu, hshare⟩ : ev'.s.shu = ev.s.shu ∧ ev'.share = ev.share := by simpa [Ev.sharing] using hsharing
  exact h.imp hshare.trans
    (State.sharesStand_congr (State.still_of_kept hkept) (by rw [hshu]) (by rw [hshu]))

end

theorem Ev.compose_sharesDue {ev : Ev} (h : ev.sharesDue) : ev.compose.sharesDue := by
  unfold Ev.compose
  dsimp only
  split
  · exact h
  · exact .inl rfl

/-- R27: a computation that runs leaves its results standing: what follows from the share changes nothing that the
computation reads. -/
theorem Ev.computeShare_sharesDone {ev : Ev} (hruns : ev.s.runs = true) : ev.computeShare.sharesDone := by
  have hstill := State.still_of_kept (Ev.computeShare_kept ev)
  have hcomputed : ev.computeShare.s.shu = followShare ev.s.cbi.station ev.s.settings.raiseHold ev.s.now
      (shareComputation ev.s) ∧ ev.computeShare.share = false := by
    simp [Ev.computeShare, Ev.changeShu, hruns]
  obtain ⟨hshu, hshare⟩ := hcomputed
  refine ⟨hshare, ?_⟩
  have hview : ev.computeShare.s.shareView = ev.s.shareView := State.shareView_congr hstill (by simp [hshu])
  rw [State.sharesStand, hshu, followShare_results, ← shareComputation_shareView ev.s, ← hview,
    shareComputation_shareView]

/-- R41: a trim changes nothing that the computation reads or gives. -/
theorem Ev.checkOverdraw_sharesDone {ev : Ev} (h : ev.sharesDone) : ev.checkOverdraw.sharesDone := by
  have hstill := State.still_of_kept (Ev.checkOverdraw_kept ev)
  obtain ⟨hdone, hstand⟩ := h
  have hsame : ev.checkOverdraw.share = ev.share ∧ ev.checkOverdraw.s.shu.figures = ev.s.shu.figures ∧
      ev.checkOverdraw.s.shu.results = ev.s.shu.results := by
    unfold Ev.checkOverdraw
    dsimp only
    split <;> exact ⟨rfl, rfl, rfl⟩
  obtain ⟨hshare, hfig, hres⟩ := hsame
  exact ⟨hshare.trans hdone, State.sharesStand_congr hstill hfig hres hstand⟩

/-! ### The computation of a settled event -/

section
variable {ev : Ev}

/-- A round of figures leaves the results standing: D, F and W are composed before the computation runs, and nothing
after it in the round changes what it reads. -/
theorem Ev.figureRound_sharesDone (hruns : ev.s.runs = true) (h : ev.sharesDue) : ev.figureRound.sharesDone := by
  unfold Ev.figureRound
  extract_lets ev1 ev2 ev3 ev4
  have k1 : ev1.s.kept = ev.s.kept := Ev.ite_kept rfl (Ev.computeFigures_kept _)
  have k2 : ev2.s.kept = ev.s.kept := Ev.ite_kept ((Ev.compose_kept _).trans k1) k1
  have h1 : ev1.sharesDue := Ev.sharesDue_congr k1 (Ev.ite_sharing rfl (Ev.computeFigures_sharing _)) h
  have h2 : ev2.sharesDue := by
    by_cases hr : ev1.report = true
    · simpa only [ev2, if_pos hr] using Ev.compose_sharesDue h1
    · simpa only [ev2, if_neg hr] using h1
  have h3 : ev3.sharesDone := by
    by_cases hs : ev2.share = true
    · simpa only [ev3, if_pos hs] using Ev.computeShare_sharesDone ((State.runs_of_kept k2).trans hruns)
    · simpa only [ev3, if_neg hs] using ⟨by simpa using hs, h2.resolve_left hs⟩
  have h4 : ev4.sharesDone := by
    by_cases ho : ev3.overdraw = true
    · simpa only [ev4, if_pos ho] using Ev.checkOverdraw_sharesDone h3
    · simpa only [ev4, if_neg ho] using h3
  exact Ev.sharesDone_congr (Ev.ite_kept (Ev.reworkEntries_kept _) rfl)
    (Ev.ite_sharing (Ev.reworkEntries_sharing _) rfl) h4

theorem Ev.figureRounds_keep_sharesDone : ∀ (n : Nat) {ev : Ev}, ev.s.runs = true → ev.sharesDone →
    (ev.figureRounds n).sharesDone
  | 0, _, _, h => h
  | n + 1, ev, hruns, h => by
    unfold Ev.figureRounds
    split
    · exact Ev.figureRounds_keep_sharesDone n ((State.runs_of_kept (Ev.figureRound_kept ev)).trans hruns)
        (Ev.figureRound_sharesDone hruns h.due)
    · exact h

/-- An event that is at rest has no computation to run. -/
theorem Ev.share_of_not_restless (h : ¬ ev.restless = true) : ev.share = false := by
  simp only [Ev.restless, Bool.or_eq_true, not_or, Bool.not_eq_true] at h
  obtain ⟨⟨⟨_, hshare⟩, _⟩, _⟩ := h
  exact hshare

theorem Ev.figureRounds_sharesDone (n : Nat) (hruns : ev.s.runs = true) (h : ev.sharesDue) :
    (ev.figureRounds (n + 1)).sharesDone := by
  unfold Ev.figureRounds
  split
  · exact Ev.figureRounds_keep_sharesDone n ((State.runs_of_kept (Ev.figureRound_kept ev)).trans hruns)
      (Ev.figureRound_sharesDone hruns h)
  · rename_i hrest
    have hshare := Ev.share_of_not_restless hrest
    exact ⟨hshare, h.resolve_left (by simp [hshare])⟩

theorem Ev.settleRound_sharesDone (hruns : ev.s.runs = true) (h : ev.sharesDue) : ev.settleRound.sharesDone := by
  unfold Ev.settleRound
  extract_lets ev1 ev2 ev3
  have k2 : ev2.s.kept = ev1.s.kept := Ev.ite_kept (Ev.splitOrSetpoints_kept _) rfl
  have k3 : ev3.s.kept = ev1.s.kept := Ev.ite_kept k2 ((Ev.evaluateBays_kept _).trans k2)
  have s2 : ev2.sharing = ev1.sharing := Ev.ite_sharing (Ev.splitOrSetpoints_sharing _) rfl
  have s3 : ev3.sharing = ev1.sharing := Ev.ite_sharing s2 ((Ev.evaluateBays_sharing _).trans s2)
  exact Ev.sharesDone_congr (Ev.ite_kept ((Ev.runEngines_kept _).trans k3) k3)
    (Ev.ite_sharing ((Ev.runEngines_sharing _).trans s3) s3) (Ev.figureRounds_sharesDone 63 hruns h)

theorem Ev.settleRounds_keep_sharesDone : ∀ (n : Nat) {ev : Ev}, ev.s.runs = true → ev.sharesDone →
    (ev.settleRounds n).sharesDone
  | 0, _, _, h => h
  | n + 1, ev, hruns, h => by
    unfold Ev.settleRounds
    split
    · exact Ev.settleRounds_keep_sharesDone n ((State.runs_of_kept (Ev.settleRound_kept ev)).trans hruns)
        (Ev.settleRound_sharesDone hruns h.due)
    · exact h

/-- Settling an event of which no computation is due unnoted leaves the results of a computation standing. -/
theorem Ev.settle_sharesDone (hruns : ev.s.runs = true) (h : ev.sharesDue) : ev.settle.sharesDone := by
  unfold Ev.settle Ev.settleRounds
  split
  · exact Ev.settleRounds_keep_sharesDone 63 ((State.runs_of_kept (Ev.settleRound_kept ev)).trans hruns)
      (Ev.settleRound_sharesDone hruns h)
  · rename_i hbusy
    have hshare : ev.share = false :=
      Ev.share_of_not_restless fun hrest => hbusy (by simp [Ev.busy, hrest])
    exact ⟨hshare, h.resolve_left (by simp [hshare])⟩

/-- R27: a whole event leaves the results of a computation over the state that it leaves. -/
theorem Ev.finish_sharesStand (hruns : ev.s.runs = true) (h : ev.sharesDue) : ev.finish.sharesStand := by
  have hsettled := (Ev.settle_sharesDone hruns h).2
  obtain ⟨_, _, _, _, _, _, hfinish⟩ := ev.finish_emittedFrom
  exact State.sharesStand_congr (State.still_of_emittedFrom ev.finish_emittedFrom) (by rw [hfinish]; rfl)
    (by rw [hfinish]; rfl) hsettled

end

end Sys2Proof.Machine
end

section
/-! The panel limit (R24): what a LIMIT does, and that every other row of the table leaves the panel limit as it is or
resets it. -/

namespace Sys2Proof.Machine

/-! ### What keeps the panel limit (R24) -/

/-- Whether an event's rule leaves the panel limit as it is. -/
def KeepsLimit (body : Ev → Ev) : Prop :=
  ∀ ev, (body ev).s.shu.panelLimit = ev.s.shu.panelLimit

theorem Ev.panelLimit_of_sharing {e e' : Ev} (h : e'.sharing = e.sharing) : e'.s.shu.panelLimit = e.s.shu.panelLimit :=
  congrArg (fun x : Shu × Bool => x.1.panelLimit) h

theorem keepsLimit_of_sharing {body : Ev → Ev} (h : ∀ ev, (body ev).sharing = ev.sharing) : KeepsLimit body :=
  fun ev => Ev.panelLimit_of_sharing (h ev)

theorem KeepsLimit.comp {f g : Ev → Ev} (hg : KeepsLimit g) (hf : KeepsLimit f) : KeepsLimit fun ev => g (f ev) :=
  fun ev => (hg (f ev)).trans (hf ev)

theorem Ev.finish_panelLimit (ev : Ev) : ev.finish.shu.panelLimit = ev.s.shu.panelLimit :=
  State.still_panelLimit ev.finish_still

section
variable {body : Ev → Ev} (h : KeepsLimit body) (s : State)
include h

theorem onEvent_panelLimit : (onEvent body s).shu.panelLimit = s.shu.panelLimit := by
  unfold onEvent
  split
  · exact (Ev.finish_panelLimit _).trans (h _)
  · rfl

theorem onTimer_panelLimit (due : Option Nat) : (onTimer due body s).shu.panelLimit = s.shu.panelLimit := by
  unfold onTimer
  split
  · split
    · exact (Ev.finish_panelLimit _).trans (h _)
    · rfl
  · rfl

end

section
variable (ev : Ev)

@[simp] theorem Ev.changeStation_panelLimit (new : StationState) :
    (ev.changeStation new).s.shu.panelLimit = ev.s.shu.panelLimit := by
  unfold Ev.changeStation
  dsimp only
  split <;> rfl

@[simp] theorem Ev.enterIsolated_panelLimit (detail : Nat) :
    (ev.enterIsolated detail).s.shu.panelLimit = ev.s.shu.panelLimit :=
  Ev.changeStation_panelLimit ev _

theorem Ev.clash_panelLimit : ev.clash.s.shu.panelLimit = ev.s.shu.panelLimit := by
  unfold Ev.clash
  split
  case h_4 | h_5 | h_6 => exact Ev.changeStation_panelLimit ev _
  all_goals rfl

theorem Ev.validFrom_panelLimit (sender : StationId) :
    (ev.validFrom sender).s.shu.panelLimit = ev.s.shu.panelLimit := by
  unfold Ev.validFrom
  split
  case h_3 => exact Ev.changeStation_panelLimit ev.restartIsolation _
  all_goals rfl

theorem Ev.winHead_panelLimit (f : TxFrame) : (ev.winHead f).s.shu.panelLimit = ev.s.shu.panelLimit := by
  unfold Ev.winHead
  dsimp only
  split <;> rfl

theorem Ev.dropFrame_panelLimit (f : TxFrame) : (ev.dropFrame f).s.shu.panelLimit = ev.s.shu.panelLimit := by
  unfold Ev.dropFrame
  dsimp only
  split <;> rfl

theorem Ev.stuck_panelLimit : ev.stuck.s.shu.panelLimit = ev.s.shu.panelLimit := by
  unfold Ev.stuck
  dsimp only
  split
  · exact Ev.enterIsolated_panelLimit _ _
  · rfl

theorem Ev.takeClaim_panelLimit (sender : StationId) (c : ClaimFigures) :
    (ev.takeClaim sender c).s.shu.panelLimit = ev.s.shu.panelLimit := by
  unfold Ev.takeClaim
  exact (Ev.panelLimit_of_sharing ((Ev.raiseIf_sharing ..).trans (Ev.raiseIf_sharing ..))).trans rfl

theorem Ev.claimArrives_panelLimit (sender : StationId) (payload : List Byte) :
    (ev.claimArrives sender payload).s.shu.panelLimit = ev.s.shu.panelLimit := by
  unfold Ev.claimArrives
  split
  · exact Ev.takeClaim_panelLimit _ _ _
  · rfl

theorem Ev.listenOver_panelLimit : ev.listenOver.s.shu.panelLimit = ev.s.shu.panelLimit := by
  unfold Ev.listenOver
  split_ifs <;> simp

theorem Ev.isolationOver_panelLimit : ev.isolationOver.s.shu.panelLimit = ev.s.shu.panelLimit := by
  unfold Ev.isolationOver
  dsimp only
  split
  · exact Ev.enterIsolated_panelLimit _ _
  · rfl

theorem Ev.raiseOver_panelLimit : ev.raiseOver.s.shu.panelLimit = ev.s.shu.panelLimit := by
  unfold Ev.raiseOver
  split <;> rfl

theorem Ev.enterListen_panelLimit (own : StationId) (doors bolts : Byte) :
    (ev.enterListen own doors bolts).s.shu.panelLimit = ev.s.shu.panelLimit := by
  have hnote (e : Ev) (b : BayId) : (noteUnsecured doors bolts e b).sharing = e.sharing := by
    unfold noteUnsecured
    split <;> simp
  unfold Ev.enterListen
  exact (Ev.panelLimit_of_sharing (Ev.foldl_sharing hnote _ _)).trans rfl

end

section
variable {body : Ev → Ev} (s : State)

theorem onFrame_panelLimit (sender : StationId) (h : KeepsLimit body) :
    (onFrame sender body s).shu.panelLimit = s.shu.panelLimit :=
  onEvent_panelLimit (h.comp fun ev => Ev.validFrom_panelLimit ev sender) s

/-- A command that is answered by one REPLY keeps the panel limit where its rule leaves the Share Unit alone. -/
theorem onCommand_panelLimit (h : ∀ ev, (body ev).sharing = ev.sharing) :
    (onCommand body s).shu.panelLimit = s.shu.panelLimit :=
  onFrame_panelLimit s 0 (keepsLimit_of_sharing fun ev => Ev.ite_sharing (h ev) rfl)

theorem onEvent_panelLimit_of_sharing (h : ∀ ev, (body ev).sharing = ev.sharing) :
    (onEvent body s).shu.panelLimit = s.shu.panelLimit :=
  onEvent_panelLimit (keepsLimit_of_sharing h) s

theorem onTimer_panelLimit_of_sharing (due : Option Nat) (h : ∀ ev, (body ev).sharing = ev.sharing) :
    (onTimer due body s).shu.panelLimit = s.shu.panelLimit :=
  onTimer_panelLimit (keepsLimit_of_sharing h) s due

theorem placeReports_shu (payloads : List (List Byte)) : (placeReports payloads s).shu = s.shu := by
  unfold placeReports
  induction payloads generalizing s with
  | nil => rfl
  | cons p rest ih => rw [List.foldl_cons, ih, placeFrame_shu]

theorem Ev.sendReports_panelLimit (subject id : Byte) (used : Nat) (values : State → List (List Byte)) (ev : Ev) :
    (ev.sendReports subject id used values).s.shu.panelLimit = ev.s.shu.panelLimit := by
  have hsettled : ev.settle.s.shu.panelLimit = ev.s.shu.panelLimit :=
    State.still_panelLimit (State.still_of_kept ev.settle_kept)
  simp only [Ev.sendReports, placeReports_shu, hsettled]

theorem onQuery_panelLimit (subject id : Byte) (frames used : Nat) (values : State → List (List Byte)) :
    (onQuery subject id frames used values s).shu.panelLimit = s.shu.panelLimit := by
  refine onFrame_panelLimit s 0 fun ev => ?_
  split
  · exact Ev.sendReports_panelLimit _ _ _ _ _
  · rfl

theorem takeRelease_panelLimit (kind : ReleaseKind) (bay hold : Byte) :
    (takeRelease kind bay hold s).shu.panelLimit = s.shu.panelLimit :=
  onCommand_panelLimit s fun _ => Ev.forBay_sharing _ _ _ fun _ _ => Ev.tryRelease_sharing ..

end

/-! ### The panel limit at every row but LIMIT_ARRIVAL (R24) -/

/-- R180: what a row leaves of the panel limit: as it is, or, where the row may reset, none. -/
def LimitKept (c : Instr) (s t : State) : Prop :=
  t.shu.panelLimit = s.shu.panelLimit ∨ (c.mayReset ∧ t.shu.panelLimit = none)

section
variable {s t : State}

theorem next_panelLimit {u : State} (h : (.next u : Host.Outcome State Fault Refusal) = .next t)
    (hu : u.shu.panelLimit = s.shu.panelLimit) : t.shu.panelLimit = s.shu.panelLimit := by
  cases h
  exact hu

theorem execResetRelease_panelLimit {sid : StationId} {csel : BitVec 3} {romen : Bool}
    (h : execResetRelease sid csel romen s = .next t) : t.shu.panelLimit = s.shu.panelLimit := by
  unfold execResetRelease at h
  split at h
  · refine next_panelLimit h ?_
    unfold sampleStraps
    dsimp only
    split_ifs <;> rfl
  · exact next_panelLimit h rfl

theorem execEepromAddressAttempt_panelLimit {answer : Option (List Byte)}
    (h : execEepromAddressAttempt answer s = .next t) : t.shu.panelLimit = s.shu.panelLimit := by
  unfold execEepromAddressAttempt at h
  split at h
  case h_1 =>
    refine next_panelLimit h ?_
    unfold addressEeprom
    split
    · rfl
    · split <;> rfl
  all_goals exact next_panelLimit h rfl

theorem execSulFinished_panelLimit {doors bolts : Byte} (h : execSulFinished doors bolts s = .next t) :
    t.shu.panelLimit = s.shu.panelLimit := by
  unfold execSulFinished at h
  split at h
  · refine next_panelLimit h ?_
    unfold handover
    refine (Ev.finish_panelLimit _).trans ((Ev.enterListen_panelLimit ..).trans ?_)
    exact (Ev.panelLimit_of_sharing (Ev.noteImage_sharing ..)).trans rfl
  · exact next_panelLimit h rfl

theorem execLineIdle_panelLimit (h : execLineIdle s = .next t) : t.shu.panelLimit = s.shu.panelLimit := by
  unfold execLineIdle at h
  split at h <;> exact next_panelLimit h rfl

theorem execHeadWon_panelLimit (h : execHeadWon s = .next t) : t.shu.panelLimit = s.shu.panelLimit := by
  unfold execHeadWon at h
  split at h
  · exact next_panelLimit h (onEvent_panelLimit (fun ev => Ev.winHead_panelLimit ev _) s)
  · exact next_panelLimit h rfl

/-- R12, R173: the completion of a REPLY that carries the restart mark resets; every other completion is an event. -/
theorem execFrameTxComplete_limitKept (h : execFrameTxComplete s = .next t) : LimitKept .frameTxComplete s t := by
  unfold execFrameTxComplete at h
  split at h
  · rename_i f _
    cases h
    unfold completeFrame
    split
    · exact .inr ⟨.inr (.inr rfl), rfl⟩
    · refine .inl (onEvent_panelLimit (fun ev => ?_) s)
      split <;> rfl
  · exact .inl (next_panelLimit h rfl)

theorem execPostHeadMismatch_panelLimit (h : execPostHeadMismatch s = .next t) :
    t.shu.panelLimit = s.shu.panelLimit := by
  unfold execPostHeadMismatch at h
  split at h
  · exact next_panelLimit h (onEvent_panelLimit (fun ev => Ev.dropFrame_panelLimit ev _) s)
  · exact next_panelLimit h rfl

theorem execMismatchClashConfirmed_panelLimit (h : execMismatchClashConfirmed s = .next t) :
    t.shu.panelLimit = s.shu.panelLimit := by
  unfold execMismatchClashConfirmed at h
  split at h
  · refine next_panelLimit h (onEvent_panelLimit ?_ s)
    exact fun _ => Ev.clash_panelLimit _
  · exact next_panelLimit h rfl

theorem execRxFrameDiscarded_panelLimit {fault : RxFault} (h : execRxFrameDiscarded fault s = .next t) :
    t.shu.panelLimit = s.shu.panelLimit := by
  unfold execRxFrameDiscarded at h
  split at h <;> exact next_panelLimit h rfl

theorem execIgnoredFrame_panelLimit {sender : StationId} (h : execIgnoredFrame sender s = .next t) :
    t.shu.panelLimit = s.shu.panelLimit := by
  unfold execIgnoredFrame at h
  split at h
  · exact next_panelLimit h (onEvent_panelLimit Ev.clash_panelLimit s)
  · exact next_panelLimit h (onFrame_panelLimit s sender fun _ => rfl)

theorem execClaimArrival_panelLimit {sender : StationId} {payload : List Byte}
    (h : execClaimArrival sender payload s = .next t) : t.shu.panelLimit = s.shu.panelLimit := by
  unfold execClaimArrival at h
  split_ifs at h
  · exact next_panelLimit h (onEvent_panelLimit Ev.clash_panelLimit s)
  · exact next_panelLimit h (onFrame_panelLimit s sender fun _ => rfl)
  · exact next_panelLimit h (onFrame_panelLimit s sender fun ev => Ev.claimArrives_panelLimit ev sender payload)

theorem execQueryBay_panelLimit {bay : Byte} (h : execQueryBay bay s = .next t) :
    t.shu.panelLimit = s.shu.panelLimit := by
  unfold execQueryBay at h
  split at h
  · exact next_panelLimit h (onCommand_panelLimit s fun ev => by simp)
  · exact next_panelLimit h (onQuery_panelLimit ..)

theorem execQueryPackage_panelLimit {id : Byte} (h : execQueryPackage id s = .next t) :
    t.shu.panelLimit = s.shu.panelLimit := by
  unfold execQueryPackage at h
  split at h
  · exact next_panelLimit h (onCommand_panelLimit s fun ev => by simp)
  · split at h
    · exact next_panelLimit h (onCommand_panelLimit s fun ev => by simp)
    · exact next_panelLimit h (onQuery_panelLimit ..)

theorem execSupplyFault_panelLimit {bay : BayId} {condition : SupplyCondition}
    (h : execSupplyFault bay condition s = .next t) : t.shu.panelLimit = s.shu.panelLimit := by
  unfold execSupplyFault at h
  split at h
  · exact next_panelLimit h (onEvent_panelLimit_of_sharing s fun ev => by simp)
  · exact next_panelLimit h rfl

section
variable {bay : BayId}

theorem execDoorOpened_panelLimit (h : execDoorOpened bay s = .next t) : t.shu.panelLimit = s.shu.panelLimit := by
  unfold execDoorOpened at h
  split at h
  · exact next_panelLimit h rfl
  · exact next_panelLimit h (onEvent_panelLimit_of_sharing s fun ev => by simp)

theorem execDoorClosed_panelLimit (h : execDoorClosed bay s = .next t) : t.shu.panelLimit = s.shu.panelLimit := by
  unfold execDoorClosed at h
  split at h
  · exact next_panelLimit h (onEvent_panelLimit_of_sharing s fun ev => by simp)
  · exact next_panelLimit h rfl

theorem execBoltRetracted_panelLimit (h : execBoltRetracted bay s = .next t) :
    t.shu.panelLimit = s.shu.panelLimit := by
  unfold execBoltRetracted at h
  split at h
  · exact next_panelLimit h rfl
  · exact next_panelLimit h (onEvent_panelLimit_of_sharing s fun ev => by simp)

theorem execBoltExtended_panelLimit (h : execBoltExtended bay s = .next t) : t.shu.panelLimit = s.shu.panelLimit := by
  unfold execBoltExtended at h
  split at h
  · exact next_panelLimit h (onEvent_panelLimit_of_sharing s fun ev => by simp)
  · exact next_panelLimit h rfl

theorem execPrepareEnd_panelLimit (h : execPrepareEnd bay s = .next t) : t.shu.panelLimit = s.shu.panelLimit := by
  unfold execPrepareEnd at h
  split at h
  · exact next_panelLimit h (onTimer_panelLimit_of_sharing s _ fun ev => by simp)
  · exact next_panelLimit h rfl

theorem execPulseEnd_panelLimit (h : execPulseEnd bay s = .next t) : t.shu.panelLimit = s.shu.panelLimit := by
  unfold execPulseEnd at h
  split at h
  · exact next_panelLimit h (onTimer_panelLimit_of_sharing s _ fun ev => by simp)
  · exact next_panelLimit h rfl

theorem execHoldWindowExpiry_panelLimit (h : execHoldWindowExpiry bay s = .next t) :
    t.shu.panelLimit = s.shu.panelLimit := by
  unfold execHoldWindowExpiry at h
  split at h
  · exact next_panelLimit h (onTimer_panelLimit_of_sharing s _ fun ev => by simp)
  · exact next_panelLimit h rfl

end

/-- R24: every row but LIMIT_ARRIVAL leaves the panel limit as it is, but for a reset, which clears it. -/
theorem exec_limitKept {c : Instr} (h : exec c s = .next t) (hc : ∀ p, c ≠ .limitArrival p) : LimitKept c s t := by
  cases c with
  | powerOn =>
    cases h
    exact .inr ⟨.inl rfl, rfl⟩
  | resetInput =>
    cases h
    exact .inr ⟨.inr (.inl rfl), rfl⟩
  | frameTxComplete => exact execFrameTxComplete_limitKept h
  | limitArrival p => exact absurd rfl (hc p)
  | resetRelease => exact .inl (execResetRelease_panelLimit h)
  | eepromAddressAttempt => exact .inl (execEepromAddressAttempt_panelLimit h)
  | sulFinished => exact .inl (execSulFinished_panelLimit h)
  | lineIdle => exact .inl (execLineIdle_panelLimit h)
  | headWon => exact .inl (execHeadWon_panelLimit h)
  | postHeadMismatch => exact .inl (execPostHeadMismatch_panelLimit h)
  | mismatchClashConfirmed => exact .inl (execMismatchClashConfirmed_panelLimit h)
  | rxFrameDiscarded fault => exact .inl (execRxFrameDiscarded_panelLimit (fault := fault) h)
  | ignoredFrame => exact .inl (execIgnoredFrame_panelLimit h)
  | claimArrival => exact .inl (execClaimArrival_panelLimit h)
  | queryBay => exact .inl (execQueryBay_panelLimit h)
  | queryPackage => exact .inl (execQueryPackage_panelLimit h)
  | supplyFault => exact .inl (execSupplyFault_panelLimit h)
  | doorOpened => exact .inl (execDoorOpened_panelLimit h)
  | doorClosed => exact .inl (execDoorClosed_panelLimit h)
  | boltRetracted => exact .inl (execBoltRetracted_panelLimit h)
  | boltExtended => exact .inl (execBoltExtended_panelLimit h)
  | prepareEnd => exact .inl (execPrepareEnd_panelLimit h)
  | pulseEnd => exact .inl (execPulseEnd_panelLimit h)
  | holdWindowExpiry => exact .inl (execHoldWindowExpiry_panelLimit h)
  | headLost | stuckLineEnd | frameSkipped => exact .inl (next_panelLimit h rfl)
  | stuckLineStart => exact .inl (next_panelLimit h (onEvent_panelLimit Ev.stuck_panelLimit s))
  | ownIdFrame => exact .inl (next_panelLimit h (onEvent_panelLimit Ev.clash_panelLimit s))
  | listenPeriodExpiry => exact .inl (next_panelLimit h (onTimer_panelLimit Ev.listenOver_panelLimit s _))
  | isolationTimerExpiry => exact .inl (next_panelLimit h (onTimer_panelLimit Ev.isolationOver_panelLimit s _))
  | raiseHoldExpiry => exact .inl (next_panelLimit h (onTimer_panelLimit Ev.raiseOver_panelLimit s _))
  | refreshTimerExpiry =>
    exact .inl (next_panelLimit h (onTimer_panelLimit (body := Ev.refreshOver) (fun _ => rfl) s _))
  | peerEntryStale id =>
    exact .inl (next_panelLimit h (onTimer_panelLimit (body := Ev.peerStale id) (fun _ => rfl) s _))
  | releaseCheckout | releaseReturn | releaseService => exact .inl (next_panelLimit h (takeRelease_panelLimit ..))
  | queryStation | queryPeers => exact .inl (next_panelLimit h (onQuery_panelLimit ..))
  | packageData => exact .inl (next_panelLimit h (onFrame_panelLimit s 0 (keepsLimit_of_sharing fun ev => by simp)))
  | assignClear | fixedTable =>
    exact .inl (next_panelLimit h (onCommand_panelLimit s fun ev => Ev.forBay_sharing _ _ _ fun b e => by simp))
  | quarantine | assign | need | fixed | noticeMask | queryBadSubject | restart | packageOpen | packageWithdraw
  | unknownCommand | releaseBadKind => exact .inl (next_panelLimit h (onCommand_panelLimit s fun ev => by simp))
  | sensorSample | presenceGained | presenceLost | replyWindowTimeout | badReply | quietWaitEnd | quietWaitFail
  | identReply | statusReply | modeReply | pkgBeginReply | pkgBlockReply | pkgEndReply =>
    exact .inl (next_panelLimit h (onEvent_panelLimit_of_sharing s fun ev => by simp))
  | shedWaitEnd | pollTimerExpiry | identRetryExpiry | retryDelayExpiry | extendWaitExpiry | cooldownEnd | waitLimit =>
    exact .inl (next_panelLimit h (onTimer_panelLimit_of_sharing s _ fun ev => by simp))

end

/-! ### A LIMIT that arrives (R24) -/

/-- Whether every REPLY that waits in one state waits in the other. -/
def NoNewReply (s t : State) : Prop :=
  ∀ f ∈ t.cbi.queue, f.kind = .reply → f ∈ s.cbi.queue

theorem NoNewReply.of_queue {s t : State} (h : t.cbi.queue = s.cbi.queue) : NoNewReply s t :=
  fun _ hf _ => h ▸ hf

theorem NoNewReply.trans {s t u : State} (h1 : NoNewReply s t) (h2 : NoNewReply t u) : NoNewReply s u :=
  fun f hf hk => h1 f (h2 f hf hk) hk

theorem placeFrame_noNewReply {k : TxKind} (hk : k ≠ .reply) (payload : List Byte) (marked : Bool) (s : State) :
    NoNewReply s (placeFrame k payload marked s) := by
  intro f hf hreply
  rcases mem_insertFrame.mp hf with rfl | hf
  · exact absurd hreply hk
  · exact hf

theorem placeClaimFrame_noNewReply (payload : List Byte) (s : State) : NoNewReply s (placeClaimFrame payload s) := by
  unfold placeClaimFrame
  split
  · intro f hf hreply
    obtain ⟨g, hg, rfl⟩ := List.mem_map.mp hf
    split at hreply
    · simp_all
    · rename_i hclaim
      rwa [if_neg hclaim]
  · exact placeFrame_noNewReply (by decide) _ _ _

theorem handOver_noNewReply (s : State) : NoNewReply s (handOver s) := by
  unfold handOver
  split
  · split
    · exact .of_queue rfl
    · exact placeFrame_noNewReply (k := .notice) (by decide) _ _ s
  · exact .of_queue rfl

section
variable (ev : Ev)

theorem Ev.claims_noNewReply : NoNewReply ev.s ev.claims.s := by
  unfold Ev.claims
  dsimp only
  split
  · exact placeClaimFrame_noNewReply _ { ev.s with shu := { ev.s.shu with lastPlaced := some (claimFigures ev.s) } }
  · exact .of_queue rfl

theorem Ev.fixOrigin_noNewReply : NoNewReply ev.s ev.fixOrigin.s := by
  refine .of_queue ?_
  unfold Ev.fixOrigin
  dsimp only
  split
  · split <;> rfl
  · rfl

theorem Ev.notices_noNewReply : NoNewReply ev.s ev.notices.s := by
  unfold Ev.notices
  dsimp only
  split
  · refine NoNewReply.trans ?_ ((handOver_noNewReply _).trans (handOver_noNewReply _))
    exact .of_queue rfl
  · exact .of_queue rfl

/-- What an event brings about beyond its own rule places no REPLY. -/
theorem Ev.finish_noNewReply : NoNewReply ev.s ev.finish := by
  have hsettled : ev.settle.s.cbi = ev.s.cbi := (congrArg State.cbi ev.settle_kept :)
  refine (NoNewReply.of_queue (by rw [hsettled])).trans ?_
  exact (Ev.claims_noNewReply _).trans ((Ev.fixOrigin_noNewReply _).trans (Ev.notices_noNewReply _))

theorem Ev.changeStation_queue (new : StationState) : (ev.changeStation new).s.cbi.queue = ev.s.cbi.queue := by
  unfold Ev.changeStation
  dsimp only
  split <;> rfl

theorem Ev.validFrom_queue (sender : StationId) : (ev.validFrom sender).s.cbi.queue = ev.s.cbi.queue := by
  unfold Ev.validFrom
  split
  case h_3 => exact Ev.changeStation_queue ev.restartIsolation _
  all_goals rfl

theorem Ev.changeStation_station (new : StationState) : (ev.changeStation new).s.cbi.station = new := by
  unfold Ev.changeStation
  dsimp only
  split <;> rfl

/-- R14: a valid frame leaves a station that runs running. -/
theorem Ev.validFrom_runs (sender : StationId) (h : ev.s.runs = true) : (ev.validFrom sender).s.runs = true := by
  unfold Ev.validFrom
  split
  case h_3 =>
    have hactive := Ev.changeStation_station ev.restartIsolation .active
    simp [State.runs, hactive]
  all_goals exact h

end

/-- R24, Table 11-2: a LIMIT of the required length, its value given. -/
theorem Ev.limitArrives_word (lo hi : Byte) (ev : Ev) : ev.limitArrives [lo, hi] =
    { ev.setShu { ev.s.shu with panelLimit := panelLimitOf (wordAt lo hi) } with share := true } := rfl

theorem execLimitArrival_of_runs {s : State} (h : s.runs = true) (payload : List Byte) :
    exec (.limitArrival payload) s = .next (((Ev.start s).validFrom 0).limitArrives payload).finish := by
  show Host.Outcome.next (onFrame 0 (Ev.limitArrives payload) s) = _
  rw [onFrame_of_runs h]

/-- R24: the boundaries of the value of a LIMIT. -/
theorem panelLimitOf_eq (v : Nat) : panelLimitOf v =
    if v = 0 then none else if v < 100 then some 100 else if v ≤ 2400 then some v else some 2400 := by
  unfold panelLimitOf clamp
  split_ifs <;> simp <;> omega

theorem limitArrival_effect {s : State} (lo hi : Byte) (h : s.runs = true) :
    ∃ t, exec (.limitArrival [lo, hi]) s = .next t ∧
      t.shu.panelLimit = panelLimitOf (lo.toNat + 256 * hi.toNat) ∧ t.sharesStand ∧ NoNewReply s t := by
  refine ⟨_, execLimitArrival_of_runs h [lo, hi], ?_, ?_, ?_⟩
  · rw [Ev.finish_panelLimit, Ev.limitArrives_word]
    rfl
  · exact Ev.finish_sharesStand (Ev.validFrom_runs (Ev.start s) 0 h) (.inl rfl)
  · refine NoNewReply.trans (.of_queue ?_) (Ev.finish_noNewReply _)
    exact Ev.validFrom_queue (Ev.start s) 0

/-- Settles O29: the LIMIT by its effect, every other row by the frame of the panel limit, the reset by its values. -/
theorem panelLimit : Obligations.PanelLimit := by
  unfold Obligations.PanelLimit
  refine ⟨fun s lo hi hruns => ?_, fun c s t h hc => exec_limitKept h hc, rfl⟩
  obtain ⟨t, hexec, hlimit, hstand, hreply⟩ := limitArrival_effect lo hi hruns
  obtain ⟨hceff, hrsv, hshare, hfloor⟩ : t.shu.cEff = (shareComputation t).cEff ∧
      t.shu.rsv = (shareComputation t).rsv ∧ t.shu.share = (shareComputation t).share ∧
      t.shu.floorGrant = (shareComputation t).floorGrant := by
    simpa [State.sharesStand, Shu.results] using hstand
  exact ⟨t, hexec, hlimit.trans (panelLimitOf_eq _), hceff, hrsv, hshare, hfloor, hreply⟩

end Sys2Proof.Machine
end

section
/-! Chapter 3, the temperature sensors (R49 to R52): which readings a sensor takes, what a controlling temperature does to
the counts and the derate level, and that a whole SENSOR_SAMPLE leaves exactly that. -/

namespace Sys2Proof.Machine

/-! ### One sensor (R49) -/

/-- A sensor that is not faulty meets a good reading. -/
def Sensor.Reads (x : Sensor) (t : Int) : Prop :=
  x.faulty = false ∧ -20 ≤ t ∧ t ≤ 120

theorem goodReading_iff (t : Int) : goodReading t = true ↔ -20 ≤ t ∧ t ≤ 120 := by
  simp [goodReading]

theorem Sensor.take_of_faulty {x : Sensor} (t : Int) (h : x.faulty = true) : x.take t = x := by
  simp [Sensor.take, h]

theorem Sensor.take_of_reads {x : Sensor} {t : Int} (h : x.Reads t) : x.take t = ⟨some t, false⟩ := by
  obtain ⟨hsound, hgood⟩ := h
  simp [Sensor.take, hsound, (goodReading_iff t).mpr hgood]

theorem Sensor.take_of_not_reads {x : Sensor} {t : Int} (h : ¬ x.Reads t) : x.take t = ⟨x.last, true⟩ := by
  obtain ⟨last, faulty⟩ := x
  cases faulty with
  | true => exact Sensor.take_of_faulty t rfl
  | false =>
    have hbad : ¬ goodReading t = true := fun hgood => h ⟨rfl, (goodReading_iff t).mp hgood⟩
    simp [Sensor.take, hbad]

/-! ### The counts and the level at a temperature (R50, R51) -/

/-- R51, Table 3-3: 3 and CUT stay, each other level goes up one. -/
theorem DerateLevel.hotter_code (l : DerateLevel) : l.hotter.code = min 4 (if l = .l3 then 3 else l.code + 1) := by
  cases l <;> rfl

/-- R51, Table 3-3: 0 stays, each other level goes down one. -/
theorem DerateLevel.cooler_code (l : DerateLevel) : l.cooler.code = l.code - 1 := by
  cases l <;> rfl

/-- R50, R51: the counts and the level of `y` are those that a sample at `T` makes of the ones of `x`. -/
def Bsc.JudgedAt (settings : Settings) (T : Int) (x y : Bsc) : Prop :=
  if settings.tCut ≤ T then y.derate = .cut ∧ y.hot = 0 ∧ y.cool = 0
  else if settings.tHi ≤ T then y.cool = 0 ∧
    if x.hot + 1 < 8 then y.hot = x.hot + 1 ∧ y.derate = x.derate
    else y.hot = 0 ∧ y.derate.code = min 4 (if x.derate = .l3 then 3 else x.derate.code + 1)
  else if T ≤ settings.tLo then y.hot = 0 ∧
    if x.cool + 1 < 40 then y.cool = x.cool + 1 ∧ y.derate = x.derate
    else y.cool = 0 ∧ y.derate.code = x.derate.code - 1
  else y.hot = 0 ∧ y.cool = 0 ∧ y.derate = x.derate

theorem Bsc.sampleAt_judged (settings : Settings) (T : Int) (x : Bsc) :
    x.JudgedAt settings T (x.sampleAt settings T) := by
  unfold Bsc.JudgedAt Bsc.sampleAt
  by_cases hcut : settings.tCut ≤ T
  · simp only [if_pos hcut, and_self]
  by_cases hhot : settings.tHi ≤ T
  · simp only [if_neg hcut, if_pos hhot]
    by_cases hcount : x.hot + 1 < 8
    · simp only [if_pos hcount, and_self]
    · simp only [if_neg hcount, true_and]
      exact x.derate.hotter_code
  by_cases hcold : T ≤ settings.tLo
  · simp only [if_neg hcut, if_neg hhot, if_pos hcold]
    by_cases hcount : x.cool + 1 < 40
    · simp only [if_pos hcount, and_self]
    · simp only [if_neg hcount, true_and]
      exact x.derate.cooler_code
  · simp only [if_neg hcut, if_neg hhot, if_neg hcold, and_self]

section
variable (settings : Settings) (x : Bsc)

@[simp] theorem Bsc.sampleAt_sensor1 (T : Int) : (x.sampleAt settings T).sensor1 = x.sensor1 := by
  unfold Bsc.sampleAt
  split_ifs <;> rfl

@[simp] theorem Bsc.sampleAt_sensor2 (T : Int) : (x.sampleAt settings T).sensor2 = x.sensor2 := by
  unfold Bsc.sampleAt
  split_ifs <;> rfl

@[simp] theorem Bsc.bothFaulty_sensor1 (marked : Bool) : (x.bothFaulty marked).sensor1 = x.sensor1 := by
  cases marked <;> rfl

@[simp] theorem Bsc.bothFaulty_sensor2 (marked : Bool) : (x.bothFaulty marked).sensor2 = x.sensor2 := by
  cases marked <;> rfl

end

/-! ### A sample of both sensors (R50, R52) -/

section
variable {x : Bsc} {r1 r2 : Int} (settings : Settings)

@[simp] theorem Bsc.sample_sensor1 : (x.sample settings r1 r2).sensor1 = x.sensor1.take r1 := by
  unfold Bsc.sample
  dsimp only
  split <;> simp

@[simp] theorem Bsc.sample_sensor2 : (x.sample settings r1 r2).sensor2 = x.sensor2.take r2 := by
  unfold Bsc.sample
  dsimp only
  split <;> simp

/-- R50: the controlling temperature, where there is one, is what a sample is judged at. -/
theorem Bsc.sample_judged {T : Int} (h : controlling (x.sensor1.take r1) (x.sensor2.take r2) r1 r2 = some T) :
    x.JudgedAt settings T (x.sample settings r1 r2) := by
  simp only [Bsc.sample, h]
  exact Bsc.sampleAt_judged settings T { x with sensor1 := x.sensor1.take r1, sensor2 := x.sensor2.take r2 }

theorem Bsc.sample_of_reads_both (h1 : x.sensor1.Reads r1) (h2 : x.sensor2.Reads r2) :
    x.JudgedAt settings (max r1 r2) (x.sample settings r1 r2) :=
  Bsc.sample_judged settings (by simp [controlling, Sensor.take_of_reads h1, Sensor.take_of_reads h2])

theorem Bsc.sample_of_reads_first (h1 : x.sensor1.Reads r1) (h2 : ¬ x.sensor2.Reads r2) :
    x.JudgedAt settings r1 (x.sample settings r1 r2) :=
  Bsc.sample_judged settings (by simp [controlling, Sensor.take_of_reads h1, Sensor.take_of_not_reads h2])

theorem Bsc.sample_of_reads_second (h1 : ¬ x.sensor1.Reads r1) (h2 : x.sensor2.Reads r2) :
    x.JudgedAt settings r2 (x.sample settings r1 r2) :=
  Bsc.sample_judged settings (by simp [controlling, Sensor.take_of_not_reads h1, Sensor.take_of_reads h2])

/-- R52: no temperature drives a sample that leaves both sensors faulty. -/
theorem Bsc.sample_of_reads_neither (h1 : ¬ x.sensor1.Reads r1) (h2 : ¬ x.sensor2.Reads r2) :
    x.sample settings r1 r2 =
      ({ x with sensor1 := ⟨x.sensor1.last, true⟩, sensor2 := ⟨x.sensor2.last, true⟩ } : Bsc).bothFaulty
        (!(x.sensor1.faulty && x.sensor2.faulty)) := by
  simp [Bsc.sample, controlling, Sensor.take_of_not_reads h1, Sensor.take_of_not_reads h2]

/-- R52: the sample that leaves both faulty, where one was not before it. -/
theorem Bsc.sample_marks_last (h1 : ¬ x.sensor1.Reads r1) (h2 : ¬ x.sensor2.Reads r2)
    (h : x.sensor1.faulty = false ∨ x.sensor2.faulty = false) :
    (x.sample settings r1 r2).derate = .l2 ∧ (x.sample settings r1 r2).hot = 0 ∧
      (x.sample settings r1 r2).cool = 0 := by
  have hmarked : (!(x.sensor1.faulty && x.sensor2.faulty)) = true := by
    rcases h with h | h <;> simp [h]
  rw [Bsc.sample_of_reads_neither settings h1 h2, hmarked]
  exact ⟨rfl, rfl, rfl⟩

/-- R52: once both sensors are faulty, a sample changes nothing. -/
theorem Bsc.sample_of_faulty (h1 : x.sensor1.faulty = true) (h2 : x.sensor2.faulty = true) :
    x.sample settings r1 r2 = x := by
  simp [Bsc.sample, Sensor.take_of_faulty _ h1, Sensor.take_of_faulty _ h2, controlling, Bsc.bothFaulty, h1, h2]

end

/-! ### The whole event -/

@[simp] theorem Ev.noteSensor_s (number : Nat) (before after : Sensor) (ev : Ev) :
    (ev.noteSensor number before after).s = ev.s := by
  unfold Ev.noteSensor
  split <;> rfl

@[simp] theorem Ev.noteDerate_s (before after : DerateLevel) (T : Option Int) (ev : Ev) :
    (ev.noteDerate before after T).s = ev.s := by
  unfold Ev.noteDerate
  split_ifs <;> rfl

theorem Ev.sample_bsc (r1 r2 : Int) (ev : Ev) : (ev.sample r1 r2).s.bsc = ev.s.bsc.sample ev.s.settings r1 r2 := by
  simp [Ev.sample]

/-- The Bay Supply Controller outside its bays is among what a whole event keeps. -/
theorem State.still_bsc {s t : State} (h : s.still = t.still) : s.bsc = { t.bsc with bays := s.bsc.bays } :=
  (congrArg (fun x : State => { x.bsc with bays := s.bsc.bays }) h :)

/-- R49 to R52: outside the bays, a SENSOR_SAMPLE leaves the Bay Supply Controller as the sample itself does. -/
theorem sensorSample_effect {s : State} (hruns : s.runs = true) (r1 r2 : Int) :
    ∃ t, exec (.sensorSample r1 r2) s = .next t ∧
      t.bsc = { s.bsc.sample s.settings r1 r2 with bays := t.bsc.bays } := by
  refine ⟨_, congrArg Host.Outcome.next (onEvent_of_runs hruns (Ev.sample r1 r2)), ?_⟩
  have hbsc := State.still_bsc (Ev.finish_still ((Ev.start s).sample r1 r2))
  rwa [Ev.sample_bsc] at hbsc

/-- Settles O41: the branches of the sample, carried over the settling of its event, which writes none of the figures
named. -/
theorem sensorRows : Obligations.SensorRows := by
  unfold Obligations.SensorRows
  refine ⟨fun s r1 r2 hruns => ?_, rfl, rfl⟩
  obtain ⟨t, hexec, hbsc⟩ := sensorSample_effect hruns r1 r2
  refine ⟨t, hexec, ?_⟩
  rw [hbsc]
  have hsensor1 := Bsc.sample_sensor1 (x := s.bsc) (r1 := r1) (r2 := r2) s.settings
  have hsensor2 := Bsc.sample_sensor2 (x := s.bsc) (r1 := r1) (r2 := r2) s.settings
  refine ⟨Bsc.sample_of_reads_both s.settings, Bsc.sample_of_reads_first s.settings,
    Bsc.sample_of_reads_second s.settings, Bsc.sample_marks_last s.settings, fun h1 h2 => ?_,
    fun h => hsensor1.trans (Sensor.take_of_faulty r1 h), fun h => hsensor2.trans (Sensor.take_of_faulty r2 h),
    fun h => hsensor1.trans (Sensor.take_of_reads h), fun h => hsensor2.trans (Sensor.take_of_reads h),
    fun h => ?_, fun h => ?_⟩
  · rw [Bsc.sample_of_faulty s.settings h1 h2]
    exact ⟨rfl, rfl, rfl⟩
  · have htaken := hsensor1.trans (Sensor.take_of_not_reads h)
    exact ⟨congrArg Sensor.faulty htaken, (congrArg Sensor.last htaken :)⟩
  · have htaken := hsensor2.trans (Sensor.take_of_not_reads h)
    exact ⟨congrArg Sensor.faulty htaken, (congrArg Sensor.last htaken :)⟩

end Sys2Proof.Machine
end

section
/-! Chapter 3, the figures of a bay: the entry it charges by (R46, R47), its charge current (R53, R54), its request (R55),
its floor (R56) and its setpoint (R63). -/

namespace Sys2Proof.Machine

/-! ### Rounding to 50 mA -/

theorem down50_le (n : Nat) : down50 n ≤ n :=
  Nat.div_mul_le_self n 50

/-! ### The entry a bay charges by (R46, R47) -/

/-- R46: a bay charges by band 0 where its dock is ASLEEP or its percent is not known, else by the band of its percent. -/
theorem bandOf_eq (size : Nat) (dock : DockState) (record : Option TabletRecord) : bandOf size dock record =
    (record.bind TabletRecord.percent).elim 0 fun p => if dock = .asleep then 0 else p * size / 101 := by
  unfold bandOf
  cases record with
  | none => simp
  | some r => cases hpercent : r.percent <;> simp [hpercent]

theorem chargeEntry_of_fixed {settings : Settings} {fixed : Option Nat} {current : Nat} (d : DlcBay)
    (h : fixed = some current) : chargeEntry settings fixed d = ⟨current, false, .bulk⟩ := by
  subst h
  rfl

theorem chargeEntry_of_profile {settings : Settings} {fixed : Option Nat} {d : DlcBay} {entry : ProfileEntry}
    (hfixed : fixed = none) (hentry : settings.profile[entryIndex settings.classes d]? = some entry) :
    chargeEntry settings fixed d = entry := by
  subst hfixed
  simp [chargeEntry, hentry]

/-! ### The charge current (R53, R54) -/

/-- R53: a level leaves four quarters less its own number. -/
theorem DerateLevel.quarters_eq (l : DerateLevel) : l.quarters = 4 - l.code := by
  cases l <;> rfl

theorem charging_iff (level : DerateLevel) (supply : SupplyState) (entry : ProfileEntry) (record : Option TabletRecord) :
    charging level supply entry record = true ↔
      supply = .run ∧ level ≠ .cut ∧ entry.phase ≠ .hold ∧ ∀ r, record = some r → r.inhibit = false := by
  cases record <;> simp [charging, and_assoc]

section
variable {s : State} {b : BayId} {entry : ProfileEntry}

/-- R54: the bay charges by the entry given. -/
def State.Charges (s : State) (b : BayId) (entry : ProfileEntry) : Prop :=
  (s.bscBay b).supply = .run ∧ s.bsc.derate ≠ .cut ∧ entry.phase ≠ .hold ∧
    ∀ r, (s.dlcBay b).record = some r → r.inhibit = false

theorem chargeCurrentOf_of_charges (hentry : chargeEntry s.settings (s.bscBay b).fixed (s.dlcBay b) = entry)
    (h : s.Charges b entry) : chargeCurrentOf s b = derated s.bsc.derate entry.current := by
  simp only [chargeCurrentOf, hentry, if_pos ((charging_iff ..).mpr h)]

theorem chargeCurrentOf_of_not_charges (hentry : chargeEntry s.settings (s.bscBay b).fixed (s.dlcBay b) = entry)
    (h : ¬ s.Charges b entry) : chargeCurrentOf s b = 0 := by
  simp only [chargeCurrentOf, hentry, if_neg fun hc => h ((charging_iff ..).mp hc)]

/-! ### The figures computed (R58) -/

@[simp] theorem computedBay_chargeCurrent : (computedBay s b).chargeCurrent = chargeCurrentOf s b := rfl

@[simp] theorem computedBay_request :
    (computedBay s b).request = requestOf (computedBay s b).chargeCurrent (computedBay s b).chargeNine := rfl

theorem computedBay_chargeNine (hentry : chargeEntry s.settings (s.bscBay b).fixed (s.dlcBay b) = entry) :
    (computedBay s b).chargeNine = (decide (0 < chargeCurrentOf s b) && entry.nineVolt) := by
  rw [← hentry]
  rfl

theorem computedBay_phase (hentry : chargeEntry s.settings (s.bscBay b).fixed (s.dlcBay b) = entry) :
    (computedBay s b).phase = if (s.bscBay b).supply = .idle then none else some entry.phase := by
  rw [← hentry]
  rfl

theorem computedBay_floor : (computedBay s b).floor =
    floorOf s.bsc.derate (s.bscBay b).supply (!(s.pksBay b).list.isEmpty) (s.dlcBay b).dock (s.lkcBay b).lock := rfl

theorem computedBay_demand : (computedBay s b).demand = max (computedBay s b).request (computedBay s b).floor := rfl

/-- R54: a bay in IDLE or FAULT, inhibited, in HOLD or at CUT does not charge. -/
theorem chargeCurrentOf_of_held (h : (s.bscBay b).supply = .idle ∨ (s.bscBay b).supply = .fault ∨
    (∃ r, (s.dlcBay b).record = some r ∧ r.inhibit = true) ∨ (computedBay s b).phase = some .hold ∨
    s.bsc.derate = .cut) : chargeCurrentOf s b = 0 := by
  refine chargeCurrentOf_of_not_charges rfl fun ⟨hrun, hcut, hhold, hfree⟩ => ?_
  rcases h with h | h | ⟨r, hr, hinhibit⟩ | h | h
  · simp [hrun] at h
  · simp [hrun] at h
  · simp [hfree r hr] at hinhibit
  · simp [computedBay_phase rfl, hrun, hhold] at h
  · exact hcut h

end

/-! ### The request (R55) -/

@[simp] theorem requestOf_zero (nine : Bool) : requestOf 0 nine = 0 := by
  cases nine <;> rfl

/-- R55: the current of a grant of the full request is not below the charge current but by the rounding to 50 mA. A
current of up to 2700 mA is above 24 W at 9 V alone, and 24 W at 9 V give 2650 mA. -/
theorem le_down50_of_request (current : Nat) (nine : Bool) (h : current ≤ 2700) :
    current ≤ down50 (requestOf current nine * 1000000 / millivolts nine) + 50 := by
  cases nine with
  | false =>
    simp only [requestOf, millivolts, down50, Bool.false_eq_true, if_false]
    omega
  | true =>
    simp only [requestOf, millivolts, down50, if_true]
    omega

/-! ### The floor (R56) -/

/-- R56: the keep-alive floor and the wake floor need different dock states, so that the larger is the one that
applies. -/
theorem floorOf_eq (level : DerateLevel) (supply : SupplyState) (listed : Bool) (dock : DockState)
    (lock : Option LockState) : floorOf level supply listed dock lock =
      if level = .cut ∨ supply = .fault then 0
      else if listed = true ∧ dock = .active ∧ lock = some .locked then 6
      else if dock = .asleep ∨ dock = .seated then 2 else 0 := by
  unfold floorOf keepAlive
  cases dock <;> simp [wakeFloor]

/-! ### The setpoint (R63) -/

section
variable {x : BscBay}

theorem setpointOf_nineVolt : (setpointOf x).nineVolt = (x.chargeNine && decide (0 < x.chargeCurrent)) :=
  Bool.and_comm _ _

theorem setpointOf_current_of_run (h : x.supply = .run) : (setpointOf x).current =
    min (down50 (x.grant * 1000000 / millivolts (setpointOf x).nineVolt))
      (max x.chargeCurrent (floorCurrent x.floor)) := by
  simp [setpointOf, h]

theorem setpointOf_current_of_not_run (h : x.supply ≠ .run) : (setpointOf x).current = 0 := by
  simp [setpointOf, h]

theorem setpointOf_current_le : (setpointOf x).current ≤ x.grant * 1000000 / millivolts (setpointOf x).nineVolt := by
  by_cases h : x.supply = .run
  · rw [setpointOf_current_of_run h]
    exact (Nat.min_le_left _ _).trans (down50_le _)
  · rw [setpointOf_current_of_not_run h]
    exact Nat.zero_le _

/-- R63: the power of a setpoint is never above the grant, since the grant's current is rounded down. -/
theorem setpointOf_power_le : (setpointOf x).power ≤ 1000 * x.grant := by
  have hcurrent := setpointOf_current_le (x := x)
  unfold Setpoint.power
  cases hnine : (setpointOf x).nineVolt with
  | false =>
    simp only [hnine, millivolts, Bool.false_eq_true, if_false] at hcurrent ⊢
    omega
  | true =>
    simp only [hnine, millivolts, if_true] at hcurrent ⊢
    omega

/-- R55: a bay in RUN that is granted its full request draws at most 50 mA less than its charge current. -/
theorem le_setpointOf_current (hrun : x.supply = .run) (hrequest : x.request = requestOf x.chargeCurrent x.chargeNine)
    (hgrant : x.grant = x.request) (hmax : x.chargeCurrent ≤ 2700) :
    x.chargeCurrent ≤ (setpointOf x).current + 50 := by
  rcases Nat.eq_zero_or_pos x.chargeCurrent with hzero | hpos
  · omega
  · have hnine : (setpointOf x).nineVolt = x.chargeNine := by simp [setpointOf_nineVolt, hpos]
    have hgranted := le_down50_of_request x.chargeCurrent x.chargeNine hmax
    rw [setpointOf_current_of_run hrun, hnine, hgrant, hrequest]
    omega

end

/-! ### The statement -/

/-- Settles O59: the figures by the equations of their functions, the setpoint by the rounding of the grant's current. -/
theorem requestRule : Obligations.RequestRule := by
  unfold Obligations.RequestRule
  refine ⟨fun s b => ?_, by decide, fun s b entry => ?_, fun x => ?_⟩
  · refine ⟨rfl, fun hzero => ?_, fun hheld => ?_, fun hgrant => ⟨?_, fun hrun => ?_⟩⟩
    · rw [computedBay_request, hzero, requestOf_zero]
    · rw [computedBay_request, computedBay_chargeCurrent, chargeCurrentOf_of_held hheld, requestOf_zero]
    · rw [← hgrant]
      exact setpointOf_power_le
    · exact le_setpointOf_current (x := computedBay s b) hrun computedBay_request hgrant
  · intro y d x size part band level charging
    have hlevel : level = s.bsc.derate.code := by cases hl : s.bsc.derate <;> simp only [level, hl] <;> rfl
    have hindex : entryIndex s.settings.classes d = part * size + band := by
      have hpart : part = partitionOf s.settings.classes d.record := by
        cases hr : d.record <;> simp only [part, hr] <;> rfl
      have hband : band = bandOf size d.dock d.record := by
        rw [bandOf_eq]
        cases hp : d.record.bind TabletRecord.percent <;> simp only [band, hp] <;> rfl
      rw [hpart, hband]
      rfl
    have hfloor : x.floor = _ := computedBay_floor.trans (floorOf_eq ..)
    refine ⟨fun hcharge => ?_, ?_, computedBay_demand⟩
    · have hentry : chargeEntry s.settings (s.bscBay b).fixed (s.dlcBay b) = entry := by
        rcases hcharge with ⟨current, hfixed, rfl⟩ | ⟨hfixed, hprofile⟩
        · exact chargeEntry_of_fixed d hfixed
        · exact chargeEntry_of_profile hfixed (hindex ▸ hprofile)
      refine ⟨fun h => ⟨?_, fun hpos => ?_⟩, chargeCurrentOf_of_not_charges hentry, fun hzero => ?_,
        computedBay_phase hentry⟩
      · rw [hlevel, ← DerateLevel.quarters_eq]
        exact chargeCurrentOf_of_charges hentry h
      · have hpos' : 0 < chargeCurrentOf s b := hpos
        simp [x, computedBay_chargeNine hentry, hpos']
      · have hzero' : chargeCurrentOf s b = 0 := hzero
        simp [x, computedBay_chargeNine hentry, hzero']
    · simpa using hfloor
  · exact ⟨setpointOf_nineVolt, setpointOf_current_of_run, setpointOf_current_of_not_run, setpointOf_power_le⟩

end Sys2Proof.Machine
end
